-- ==== Sys2Proof/Word.lean ====
section
/-! DEFINITION. The two bit-vector widths the VQ412's layouts are made of (spec/11_frame_and_record_formats.md). -/

namespace Sys2Proof

/-- One byte of a frame, a record or a line (R21, R164). -/
abbrev Byte := BitVec 8

/-- A 16-bit field: a counter, a rule operand, a tick count (00_scope.md "Counters and operands", R183). -/
abbrev Half := BitVec 16

end Sys2Proof
end

