-- ==== Sys2Proof/Config.lean ====
section
/-! DEFINITION. The fixed capacities and identification values of the VQ412 (00_scope.md "Capacities", R176).
The spec leaves no value to an implementation (notes/assumptions/23.md); the one opaque constant stands for something that
the model, having no time, cannot tell (notes/assumptions/35.md). -/

namespace Sys2Proof.Config

/-- Intake FIFO records per arm (R45). -/
def intakeCapacity : Nat := 16
/-- Effect queue entries per arm (R50). -/
def effectCapacity : Nat := 32
/-- ALERT queue entries (R154). -/
def alertCapacity : Nat := 8
/-- QUEST queue entries (R154). -/
def questCapacity : Nat := 32
/-- EVENT queue entries (R154). -/
def eventCapacity : Nat := 24
/-- Receive buffer bytes (R169). -/
def bufferCapacity : Nat := 512
/-- Buffer count at which HOLD becomes owed (R170). -/
def bufferHoldLevel : Nat := 384
/-- Buffer count at which GO becomes owed (R170). -/
def bufferGoLevel : Nat := 128
/-- Free QUEST entries and free effect entries per active arm that admission needs (R126). -/
def admissionRoom : Nat := 16
/-- Rules fired per event (R116). -/
def firedLimit : Nat := 4
/-- Events taken from one tile in one visit (R28). -/
def visitLimit : Nat := 4
/-- Consecutive misses at which a miss count stops (R13). -/
def missLimit : Nat := 3
/-- Part code (R176). -/
def partCode : Half := 0x0412
/-- Revision (R176). -/
def revision : Byte := 1
/-- Whether, when the TILE-WRITE of this number is applied, a frame is on the pair of its arm that no frame command shows:
the poll that the write ends still being sent or already being answered, or a stray frame being received (R7, R21, R27). A
free value: DESIGN CHOICE, log 35. -/
opaque frameOnPair : Nat → Bool

end Sys2Proof.Config
end

