-- ==== Sys2Proof/Syntax.lean ====
section
/-! DEFINITION. The commands of the VQ412: one constructor for each row of spec/opcode_table.json, in the table's order.
A request row carries the body of its request frame, byte for byte (R183: the length and every field are judged
when the request is served), a line row the bytes received with the level of each stop bit (R23, R165). -/

namespace Sys2Proof

/-- The two tile arms (00_scope.md "Terms": arm A is index 0, arm B index 1). -/
inductive ArmId where
  | a
  | b
deriving DecidableEq, Repr

/-- One received byte and whether its stop bit was at the idle level (R23 check 1, R164). -/
structure LineByte where
  value : Byte
  stopOk : Bool
deriving DecidableEq, Repr

/-- The commands. -/
inductive Instr where
  /-- POWER_ON (R140): VDD is applied. -/
  | powerOn
  /-- RESET_LINE (R140): RSTN goes low. -/
  | resetLine
  /-- UPLINK_BYTE_RECEIVED (R165): a byte other than HOLD or GO ends its stop bit on UPRX. -/
  | uplinkByteReceived (value : Byte) (stopOk : Bool)
  /-- HOLD_RECEIVED (R171): the byte 0xF1 ends its stop bit on UPRX. -/
  | holdReceived (stopOk : Bool)
  /-- GO_RECEIVED (R171): the byte 0xF2 ends its stop bit on UPRX. -/
  | goReceived (stopOk : Bool)
  /-- PARTIAL_FRAME_TIMEOUT (R168): four byte times without a frame byte pass in FRAME. -/
  | partialFrameTimeout
  /-- DISCARD_QUIET (R168): four byte times of quiet pass in DISCARD. -/
  | discardQuiet
  /-- FLOW_BYTE_SEND (R172): the byte boundary on UPTX at which an owed flow byte leaves. -/
  | flowByteSend
  /-- TRANSMIT_FRAME_START (R162): the free transmitter chooses and begins a frame. -/
  | transmitFrameStart
  /-- TRANSMIT_FRAME_END (R161): the last byte of the frame in transmission has been sent. -/
  | transmitFrameEnd
  /-- REQUEST_TAKE (R174): the free request handler takes the oldest complete frame. -/
  | requestTake
  /-- IDENTIFY (R176): the request IDENTIFY with this body comes up for service. -/
  | identify (body : List Byte)
  /-- ARM_STATUS (R44): the request ARM-STATUS with this body comes up for service. -/
  | armStatus (body : List Byte)
  /-- TILE_READ (R18): the request TILE-READ with this body comes up for service. -/
  | tileRead (body : List Byte)
  /-- ARM_START (R33): the request ARM-START with this body comes up for service. -/
  | armStart (body : List Byte)
  /-- ARM_STOP (R35): the request ARM-STOP with this body comes up for service. -/
  | armStop (body : List Byte)
  /-- DOZE (R40): the request DOZE with this body comes up for service. -/
  | doze (body : List Byte)
  /-- DIAG_CAPTURE (R147): the request DIAG-CAPTURE with this body comes up for service. -/
  | diagCapture (body : List Byte)
  /-- SETUP (R136): the request SETUP with this body comes up for service. -/
  | setup (body : List Byte)
  /-- TILE_WRITE (R3): the request TILE-WRITE with this body comes up for service. -/
  | tileWrite (body : List Byte)
  /-- RULE_WRITE (R105): the request RULE-WRITE with this body comes up for service. -/
  | ruleWrite (body : List Byte)
  /-- RULE_READ (R106): the request RULE-READ with this body comes up for service. -/
  | ruleRead (body : List Byte)
  /-- RULE_ENABLE (R108): the request RULE-ENABLE with this body comes up for service. -/
  | ruleEnable (body : List Byte)
  /-- RULE_DISABLE (R108): the request RULE-DISABLE with this body comes up for service. -/
  | ruleDisable (body : List Byte)
  /-- RAW_READ (R153): the request RAW-READ with this body comes up for service. -/
  | rawRead (body : List Byte)
  /-- RAW_WRITE (R152): the request RAW-WRITE with this body comes up for service. -/
  | rawWrite (body : List Byte)
  /-- QUEST_WRITE (R62): the request QUEST-WRITE with this body comes up for service. -/
  | questWrite (body : List Byte)
  /-- QUEST_READ (R64): the request QUEST-READ with this body comes up for service. -/
  | questRead (body : List Byte)
  /-- QUEST_START (R63): the request QUEST-START with this body comes up for service. -/
  | questStart (body : List Byte)
  /-- QUEST_ABORT (R71): the request QUEST-ABORT with this body comes up for service. -/
  | questAbort (body : List Byte)
  /-- SCORE_SET (R95): the request SCORE-SET with this body comes up for service. -/
  | scoreSet (body : List Byte)
  /-- SCORE_READ (R95): the request SCORE-READ with this body comes up for service. -/
  | scoreRead (body : List Byte)
  /-- TURN_SET (R99): the request TURN-SET with this body comes up for service. -/
  | turnSet (body : List Byte)
  /-- EFFECT_SEND (R55): the request EFFECT-SEND with this body comes up for service. -/
  | effectSend (body : List Byte)
  /-- INJECT (R137): the request INJECT with this body comes up for service. -/
  | inject (body : List Byte)
  /-- ENGINE_HOLD (R138): the request ENGINE-HOLD with this body comes up for service. -/
  | engineHold (body : List Byte)
  /-- ENGINE_RUN (R138): the request ENGINE-RUN with this body comes up for service. -/
  | engineRun (body : List Byte)
  /-- GAME_RESET (R139): the request GAME-RESET with this body comes up for service. -/
  | gameReset (body : List Byte)
  /-- TILE_EVENT_TAKE (R128): the arbiter takes an intake FIFO record. -/
  | tileEventTake
  /-- EXPIRY_TAKE (R79): the arbiter takes the head of the expiry list. -/
  | expiryTake
  /-- INJECT_TAKE (R129): the arbiter takes the inject slot. -/
  | injectTake
  /-- QUEST_TICK (R75): the 10 ms tick. -/
  | questTick
  /-- QUEST_TIMER_EXPIRY (R75): the tick's work on one timer that it brings to 0. -/
  | questTimerExpiry (quest : Fin 16)
  /-- SCRUB_SLOT (R148): the 4 ms scrub slot. -/
  | scrubSlot
  /-- SCRUB_WRITE_BACK (R149): the end of a scrubber visit. -/
  | scrubWriteBack
  /-- BIT_UPSET (R141): an upset inverts one stored bit. -/
  | bitUpset (entry : Fin 256) (position : Fin 233)
  /-- POLL_SEND (R25): a frame opportunity at which the arm starts a poll. -/
  | pollSend (arm : ArmId)
  /-- EFFECT_FRAME_SEND (R25): a frame opportunity at which the arm starts an effect frame. -/
  | effectFrameSend (arm : ArmId)
  /-- ASSIGN_SEND (R25): a frame opportunity at which the arm starts an ASSIGN. -/
  | assignSend (arm : ArmId)
  /-- EFFECT_FRAME_END (R56): transmission of the effect frame ends. -/
  | effectFrameEnd (arm : ArmId)
  /-- ASSIGN_END (R10): transmission of the ASSIGN frame ends. -/
  | assignEnd (arm : ArmId)
  /-- POLL_ANSWER (R23): an answer that started in the reply window has been received to its end. -/
  | pollAnswer (arm : ArmId) (answer : List LineByte)
  /-- REPLY_WINDOW_CLOSE (R22): the reply window closes with no answer started. -/
  | replyWindowClose (arm : ArmId)
  /-- STRAY_FRAME (R24): a tile frame that started outside every reply window has been received to its end. -/
  | strayFrame (arm : ArmId) (frame : List LineByte)
  /-- DOZE_WAIT_END (R42): 250 ms have passed since the start of the arm's rotation. -/
  | dozeWaitEnd (arm : ArmId)
  /-- EMPTY_ROTATION_WAIT_END (R27): 10 ms have passed since the start of the arm's rotation. -/
  | emptyRotationWaitEnd (arm : ArmId)
  /-- RSTN_RELEASE (R173): RSTN goes high again. -/
  | rstnRelease
deriving DecidableEq, Repr

end Sys2Proof
end

