-- ==== Sys2Proof/WellFormed.lean ====
section
/-! DEFINITION. What makes a command a thing that can happen at the part's pins (checked, never assumed by a meaning). -/

namespace Sys2Proof

/-- The body of an uplink frame is 0 to 40 bytes (R164). -/
def bodyFits (body : List Byte) : Bool := body.length ≤ 40

/-- A frame on an arm pair has at least one byte (R21). -/
def frameHasBytes (frame : List LineByte) : Bool := 1 ≤ frame.length

/-- A byte with a good stop bit that is neither HOLD (0xF1) nor GO (0xF2); a bad stop bit makes any value an ordinary
byte (R165). -/
def notFlowByte (value : Byte) (stopOk : Bool) : Bool := !(stopOk && (value == 0xF1 || value == 0xF2))

/-- A well-formed command. Operands of a `Fin` type are in range by their type. -/
def Instr.wf : Instr → Bool
  | .powerOn => true
  | .resetLine => true
  | .uplinkByteReceived value stopOk => notFlowByte value stopOk
  | .holdReceived _ => true
  | .goReceived _ => true
  | .partialFrameTimeout => true
  | .discardQuiet => true
  | .flowByteSend => true
  | .transmitFrameStart => true
  | .transmitFrameEnd => true
  | .requestTake => true
  | .identify body => bodyFits body
  | .armStatus body => bodyFits body
  | .tileRead body => bodyFits body
  | .armStart body => bodyFits body
  | .armStop body => bodyFits body
  | .doze body => bodyFits body
  | .diagCapture body => bodyFits body
  | .setup body => bodyFits body
  | .tileWrite body => bodyFits body
  | .ruleWrite body => bodyFits body
  | .ruleRead body => bodyFits body
  | .ruleEnable body => bodyFits body
  | .ruleDisable body => bodyFits body
  | .rawRead body => bodyFits body
  | .rawWrite body => bodyFits body
  | .questWrite body => bodyFits body
  | .questRead body => bodyFits body
  | .questStart body => bodyFits body
  | .questAbort body => bodyFits body
  | .scoreSet body => bodyFits body
  | .scoreRead body => bodyFits body
  | .turnSet body => bodyFits body
  | .effectSend body => bodyFits body
  | .inject body => bodyFits body
  | .engineHold body => bodyFits body
  | .engineRun body => bodyFits body
  | .gameReset body => bodyFits body
  | .tileEventTake => true
  | .expiryTake => true
  | .injectTake => true
  | .questTick => true
  | .questTimerExpiry _ => true
  | .scrubSlot => true
  | .scrubWriteBack => true
  | .bitUpset _ _ => true
  | .pollSend _ => true
  | .effectFrameSend _ => true
  | .assignSend _ => true
  | .effectFrameEnd _ => true
  | .assignEnd _ => true
  | .pollAnswer _ frame => frameHasBytes frame
  | .replyWindowClose _ => true
  | .strayFrame _ frame => frameHasBytes frame
  | .dozeWaitEnd _ => true
  | .emptyRotationWaitEnd _ => true
  | .rstnRelease => true

end Sys2Proof
end

