-- ==== Sys2Proof/Decode.lean ====
section
/-! DEFINITION. The word decoder of the command table. No row of spec/opcode_table.json gives its command any bits
(every "fields" is empty), so no word spells a command (notes/assumptions/24.md). -/

namespace Sys2Proof

/-- The command that the `nbits` low bits of `w` spell by the table: none, for every word. -/
def decodeTableWord (_nbits _w : Nat) : Option Instr := none

end Sys2Proof
end

