-- ==== Sys2Proof/Machine/State.lean ====
section
/-! DEFINITION. The state of the VQ412 as plain data, one structure for each block of 00_scope.md "Block overview",
and the state right after power-on. INVENTORY.md "State" names the rule and the reset value of every field. -/

namespace Sys2Proof.Machine

open Sys2Proof

/-! ### Tile map and presence (01) -/

/-- The two tile kinds (R1). -/
inductive TileKind where
  | pad
  | reader
deriving DecidableEq, Repr

/-- A tile map record (R1). -/
structure TileRec where
  excluded : Bool
  kind : TileKind
  zone : Fin 16
  echo : Bool
deriving DecidableEq, Repr

/-- The presence states (R9). -/
inductive Presence where
  | unknown
  | present
  | absent
  | mismatch
  | excluded
deriving DecidableEq, Repr

/-- A presence record (R9). `toggle` is the last accepted toggle, `taken` the events taken in the current visit,
`assign` the zone-assignment pending flag. -/
structure PresenceRec where
  state : Presence
  misses : Nat
  toggle : Bool
  taken : Nat
  assign : Bool
deriving DecidableEq, Repr

/-! ### Tile events and effects (03) -/

/-- The seat of a piece: a player's seat 0 to 5, or neutral, seat 7 (00_scope.md "Terms"). -/
inductive PieceSeat where
  | player (seat : Fin 6)
  | neutral
deriving DecidableEq, Repr

/-- A piece (00_scope.md "Terms"). -/
structure Piece where
  id : Fin 64
  seat : PieceSeat
deriving DecidableEq, Repr

/-- A tile event's kind; PLACE and LIFT carry the piece, PRESS and RELEASE have none (R45). -/
inductive TileEvent where
  | press
  | release
  | place (piece : Piece)
  | lift (piece : Piece)
deriving DecidableEq, Repr

/-- A record of an intake FIFO (R45). -/
structure EventRecord where
  arm : ArmId
  position : Fin 32
  event : TileEvent
  zone : Fin 16
deriving DecidableEq, Repr

/-- The address of an effect entry (R50). -/
inductive EffectAddr where
  | tile (position : Fin 32)
  | zone (zone : Fin 16)
  | all
deriving DecidableEq, Repr

/-- The effect kind of an entry with its pattern or clip (R50). -/
inductive Effect where
  | light (pattern : Byte)
  | sound (clip : Byte)
  | dark
deriving DecidableEq, Repr

/-- An entry of an effect queue (R50). -/
structure EffectEntry where
  addr : EffectAddr
  effect : Effect
deriving DecidableEq, Repr

/-! ### Arm controllers (02) -/

/-- The arm states (R20). -/
inductive ArmPhase where
  | off
  | enumerating
  | running
  | faulted
deriving DecidableEq, Repr

/-- The alternation memory (R20, R25). -/
inductive Alternation where
  | poll
  | effect
deriving DecidableEq, Repr

/-- The rotation record (R38). -/
structure RotationRecord where
  presentAtStart : Bool
  completed : Bool
  answered : Bool
deriving DecidableEq, Repr

/-- A poll awaiting an answer (R20, R22): its position, whether it is a greeting poll, and whether the position was
PRESENT when the poll started (R38). -/
structure Poll where
  position : Fin 32
  greeting : Bool
  fromPresent : Bool
deriving DecidableEq, Repr

/-- What is on the arm pair (R21, R22, R25). Each frame in transmission carries its bytes (R179, R180). -/
inductive Line where
  /-- Nothing is in transmission and no poll is awaiting an answer. -/
  | free
  /-- No poll is awaiting an answer any more, but the window of a poll that R7 ended is still open (log 8). -/
  | lapsed
  /-- A poll is awaiting an answer, from the start of its transmission. -/
  | poll (poll : Poll) (frame : List Byte)
  /-- An ASSIGN is in transmission; `again` says that R5 changed the zone after it started (R10, R25). -/
  | assign (position : Fin 32) (frame : List Byte) (again : Bool)
  /-- An effect frame is in transmission; `held` says that its entry still stands at the head of the queue (R57). -/
  | effect (frame : List Byte) (held : Bool)
deriving DecidableEq, Repr

/-- Where the rotation or the enumeration pass stands (R27, R28, R34; log 7). -/
inductive Pass where
  /-- No rotation is under way: the next one waits for its start (R27, R42). -/
  | between
  /-- The pass is about to decide on the rotation position. -/
  | reaching
  /-- The rotation position is being visited; `polled` says that the visit has sent a poll. -/
  | visiting (polled : Bool)
  /-- Position 31 has been visited or passed over. -/
  | ended
deriving DecidableEq, Repr

/-- The doze start mark (R20, R42): which waits, counted from the rotation's start, are over (log 6). -/
structure StartMark where
  dozeOver : Bool
  emptyOver : Bool
deriving DecidableEq, Repr

/-- One arm controller (R20) with its presence records (R9), intake FIFO (R45) and effect queue (R50). -/
structure Arm where
  phase : ArmPhase
  counter : Fin 16
  position : Fin 32
  pass : Pass
  rotationPolled : Bool
  line : Line
  alternation : Alternation
  record : RotationRecord
  framing : Nat
  check : Nat
  shape : Nat
  stray : Nat
  doze : Bool
  startMark : Option StartMark
  presence : Vector PresenceRec 32
  fifo : List EventRecord
  effects : List EffectEntry
deriving DecidableEq, Repr

/-! ### Quests (04), counters and scores (05) -/

/-- The limits of a counter's clamp, read signed (R60). -/
structure Clamp where
  lo : Half
  hi : Half
deriving DecidableEq, Repr

/-- A counter's definition (R60). -/
structure CounterDef where
  initial : Half
  clamp : Option Clamp
deriving DecidableEq, Repr

/-- What the engine does on taking a quest's expiry (R60, R79). -/
inductive OnTimeout where
  | fail
  | event
deriving DecidableEq, Repr

/-- The definition part of a quest (R60). -/
structure QuestDef where
  finalStage : Fin 16
  prerequisite : Option (Fin 16)
  owner : Option (Fin 6)
  onTimeout : OnTimeout
  startTimer : Option Half
  counters : Vector CounterDef 4
deriving DecidableEq, Repr

/-- A set of condition flags (R86). -/
structure Flags where
  n : Bool
  z : Bool
  v : Bool
  c : Bool
  k : Bool
deriving DecidableEq, Repr

/-- The quest states (R61). -/
inductive QuestState where
  | idle
  | loaded
  | active
  | complete
  | failed
deriving DecidableEq, Repr

/-- The end reasons (R61). -/
inductive EndReason where
  | none
  | completed
  | failedByRule
  | timedOut
  | aborted
deriving DecidableEq, Repr

/-- A quest record: definition part (R60) and the engine's share of the runtime part (R61). -/
structure Quest where
  definition : QuestDef
  state : QuestState
  stage : Fin 16
  counters : Vector Half 4
  flags : Flags
  endReason : EndReason
deriving DecidableEq, Repr

/-- A quest timer (R74). -/
structure Timer where
  running : Bool
  remaining : Half
deriving DecidableEq, Repr

/-- A seat score: four decimal digits and the saturated mark (R90). -/
structure Score where
  thousands : Fin 10
  hundreds : Fin 10
  tens : Fin 10
  units : Fin 10
  saturated : Bool
deriving DecidableEq, Repr

/-! ### Engine (06, 07) -/

/-- The rule states (R107). -/
inductive RuleState where
  | empty
  | enabled
  | disabled
  | spent
  | quarantined
deriving DecidableEq, Repr

/-- The engine state (R121). -/
inductive Mode where
  | run
  | hold
deriving DecidableEq, Repr

/-- An event to be matched against the rule table (R110). -/
inductive Event where
  | tile (record : EventRecord)
  | timer (quest : Fin 16)
  | injected (code : Byte)
deriving DecidableEq, Repr

/-- A work item in flight (R121, R122). -/
inductive WorkItem where
  | event (event : Event)
  | expiry (quest : Fin 16)
  | management (kind : Byte) (body : List Byte)
deriving DecidableEq, Repr

/-- The engine (R121) with the quests (R60, R61), scores (R90), turn (R96), rule states (R107) and expiry list (R78). -/
structure Engine where
  mode : Mode
  inFlight : Option WorkItem
  lastServed : ArmId
  inject : Option Byte
  seatCount : Nat
  turn : Fin 6
  highMark : Nat
  unclaimedEcho : Bool
  scrub : Bool
  quests : Vector Quest 16
  expiry : List (Fin 16)
  scores : Vector Score 6
  rules : Vector RuleState 256
deriving DecidableEq, Repr

/-! ### Rule memory (08) -/

/-- The path that made a checked read (R144). -/
inductive FoundBy where
  | scan
  | scrub
  | read
deriving DecidableEq, Repr

/-- The kind of a captured error; a position is present for CORRECTED only (R146). -/
inductive ErrorKind where
  | corrected (position : Fin 233)
  | uncorrectable
deriving DecidableEq, Repr

/-- A full capture record (R146). -/
structure Capture where
  kind : ErrorKind
  rule : Fin 256
  foundBy : FoundBy
deriving DecidableEq, Repr

/-- A pending write-back of the scrubber (R148). -/
structure WriteBack where
  rule : Fin 256
  entry : BitVec 233
deriving DecidableEq, Repr

/-- Rule memory (R141, R146, R148). Bit p of an entry is its stored position p. -/
structure RuleMemory where
  entries : Vector (BitVec 233) 256
  capture : Option Capture
  corrected : Nat
  uncorrectable : Nat
  scrubIndex : Fin 256
  writeBack : Option WriteBack
deriving DecidableEq, Repr

/-! ### Notice unit (09) -/

/-- The cause of a reset (R155, R158). -/
inductive ResetCause where
  | powerOn
  | resetLine
deriving DecidableEq, Repr

/-- The rule fault codes (R134). -/
inductive FaultCode where
  | questUndefined
  | prereqUnmet
  | notStartable
deriving DecidableEq, Repr

/-- An alert: kind, subject and content (R155). -/
inductive Alert where
  | started (cause : ResetCause)
  | tileLost (arm : ArmId) (position : Fin 32)
  | tileBack (arm : ArmId) (position : Fin 32)
  | tileMismatch (arm : ArmId) (position : Fin 32)
  | armFault (arm : ArmId)
  | ruleLost (rule : Fin 256)
  | ruleFault (rule : Fin 256) (action : Nat) (code : FaultCode)
  | uplinkGarbled
  | wake
deriving DecidableEq, Repr

/-- An entry of the ALERT queue with its repeat count (R155). -/
structure AlertEntry where
  alert : Alert
  count : Nat
deriving DecidableEq, Repr

/-- The reasons a FAILED notice carries (R73). -/
inductive FailReason where
  | failedByRule
  | timedOut
deriving DecidableEq, Repr

/-- A QUEST queue entry (R159). A SCORE notice holds the seat's score and mark as the action left them. -/
inductive QuestNotice where
  | questStarted (quest : Fin 16)
  | stage (quest : Fin 16) (stage : Fin 16)
  | complete (quest : Fin 16)
  | failed (quest : Fin 16) (reason : FailReason)
  | score (seat : Fin 6) (score : Score)
  | turn (seat : Fin 6)
  | signal (home : Option (Fin 16)) (code : Byte)
deriving DecidableEq, Repr

/-- An EVENT queue entry: the event as the scan received it and the fired count (R120, R160). -/
structure Echo where
  event : Event
  fired : Nat
deriving DecidableEq, Repr

/-- The notice unit (R154). -/
structure Notices where
  alerts : List AlertEntry
  quests : List QuestNotice
  events : List Echo
deriving DecidableEq, Repr

/-! ### Uplink port and request handler (10) -/

/-- The receiver states (R165). -/
inductive RxState where
  | idle
  | frame
  | discard
deriving DecidableEq, Repr

/-- The two flow bytes (R164). -/
inductive FlowByte where
  | hold
  | go
deriving DecidableEq, Repr

/-- The source of the frame in transmission; `held` says that the notice still stands at the head of its queue
(R161, R163). -/
inductive TxSource where
  | reply
  | alert
  | quest (held : Bool)
  | event (held : Bool)
deriving DecidableEq, Repr

/-- A frame in transmission on UPTX with all its line bytes, escapes included (R172, R181). -/
structure Tx where
  source : TxSource
  line : List Byte
deriving DecidableEq, Repr

/-- The uplink port (R173). The receive buffer is `frames`, the complete frames with the oldest first, followed by
`part`, the decoded bytes of the frame in progress (R169). -/
structure Uplink where
  rx : RxState
  escape : Bool
  frames : List (List Byte)
  part : List Byte
  receiveHeld : Bool
  hostHeld : Bool
  flowOwed : List FlowByte
  lastFlow : Option FlowByte
  tx : Option Tx
deriving DecidableEq, Repr

/-- The statuses of a reply (R177). -/
inductive Status where
  | ok
  | busy
  | invalid
  | full
  | unknown
deriving DecidableEq, Repr

/-- A reply: the request's kind byte, the status and the body (R177, R182). -/
structure Reply where
  kind : Byte
  status : Status
  body : List Byte
deriving DecidableEq, Repr

/-- The request handler's phase (R174). -/
inductive Handler where
  | idle
  | pending (kind : Byte) (body : List Byte)
  | reply (reply : Reply)
  | sending (reply : Reply)
deriving DecidableEq, Repr

/-! ### What happens while an event item runs (R130; log 4) -/

/-- The moments of an event item between which the other blocks act: before the scan comes to a rule's index, before
it comes to the action at a place (1 to 4) of a rule that fires, and before the echo decision (R110, R114, R119, R130). -/
inductive Moment where
  | fetch (rule : Fin 256)
  | action (rule : Fin 256) (place : Nat)
  | echo
deriving DecidableEq, Repr

/-- A step of another block that falls inside an event item, at this moment of it (R130). -/
structure Aside where
  moment : Moment
  command : Instr
deriving DecidableEq, Repr

/-! ### The whole part -/

/-- The state of the VQ412: its eight blocks, the level of RSTN, and three fields of the model: the queue of waiting
commands; for the event items to come, the next one first, the steps of other blocks that fall inside them (log 4); and the
number of TILE-WRITEs applied so far, which numbers the free values of log 35. -/
structure State where
  armA : Arm
  armB : Arm
  tileMap : Vector TileRec 64
  engine : Engine
  timers : Vector Timer 16
  memory : RuleMemory
  notices : Notices
  uplink : Uplink
  handler : Handler
  rstnLow : Bool
  pending : List Instr
  meanwhile : List (List Aside)
  tileWrites : Nat
deriving DecidableEq, Repr

/-- No command stops the machine: every error the spec names is a state change, an alert or a refused request
(INVENTORY.md "Faults"). -/
inductive Fault where
deriving DecidableEq, Repr

/-- The reasons to refuse a command. -/
inductive Refusal where
  /-- Raised by an arm of `exec` whose command has no meaning yet; no arm raises it now. Safe: the machine stops. -/
  | notModelled (mnemonic : String)
deriving DecidableEq, Repr

/-! ### Power-on values -/

/-- The presence record every reset writes, but for its state (R9). -/
def PresenceRec.fresh (state : Presence) : PresenceRec :=
  { state := state, misses := 0, toggle := true, taken := 0, assign := false }

/-- An arm controller at power-on (R9, R20, R48, R57). -/
def Arm.powerOn : Arm :=
  { phase := .off, counter := 0, position := 0, pass := .reaching, rotationPolled := false, line := .free,
    alternation := .poll, record := ⟨false, false, false⟩, framing := 0, check := 0, shape := 0, stray := 0,
    doze := false, startMark := none, presence := Vector.replicate 32 (PresenceRec.fresh .excluded),
    fifo := [], effects := [] }

/-- A tile map record at power-on (R2). -/
def TileRec.powerOn : TileRec := { excluded := true, kind := .pad, zone := 0, echo := false }

/-- All five flags 0 (R86). -/
def Flags.zero : Flags := ⟨false, false, false, false, false⟩

/-- A quest definition at power-on (R60). -/
def QuestDef.powerOn : QuestDef :=
  { finalStage := 0, prerequisite := none, owner := none, onTimeout := .fail, startTimer := none,
    counters := Vector.replicate 4 ⟨0, none⟩ }

/-- A quest at power-on (R60, R61). -/
def Quest.powerOn : Quest :=
  { definition := QuestDef.powerOn, state := .idle, stage := 0, counters := Vector.replicate 4 0,
    flags := Flags.zero, endReason := .none }

/-- The score 0000 with its mark clear (R90). -/
def Score.zero : Score := ⟨0, 0, 0, 0, false⟩

/-- The engine at power-on (R61, R78, R90, R96, R107, R121). -/
def Engine.powerOn : Engine :=
  { mode := .run, inFlight := none, lastServed := .b, inject := none, seatCount := 1, turn := 0, highMark := 12,
    unclaimedEcho := false, scrub := true, quests := Vector.replicate 16 Quest.powerOn, expiry := [],
    scores := Vector.replicate 6 Score.zero, rules := Vector.replicate 256 .empty }

/-- Rule memory at power-on (R141, R146, R148). -/
def RuleMemory.powerOn : RuleMemory :=
  { entries := Vector.replicate 256 0, capture := none, corrected := 0, uncorrectable := 0, scrubIndex := 0,
    writeBack := none }

/-- The uplink port at power-on, before the GO byte of R173 becomes owed. -/
def Uplink.powerOn : Uplink :=
  { rx := .idle, escape := false, frames := [], part := [], receiveHeld := false, hostHeld := false,
    flowOwed := [], lastFlow := none, tx := none }

/-- Every block at its power-on values (R140), before the reset has ended: no STARTED alert and no GO byte yet. -/
def State.blank : State :=
  { armA := Arm.powerOn, armB := Arm.powerOn, tileMap := Vector.replicate 64 TileRec.powerOn,
    engine := Engine.powerOn, timers := Vector.replicate 16 ⟨false, 0⟩, memory := RuleMemory.powerOn,
    notices := ⟨[], [], []⟩, uplink := Uplink.powerOn, handler := .idle, rstnLow := false, pending := [],
    meanwhile := [], tileWrites := 0 }

/-- The part at the end of a reset: power-on values, the STARTED alert placed (R158) and a GO byte owed (R173). -/
def State.started (cause : ResetCause) : State :=
  { State.blank with
    notices := ⟨[⟨.started cause, 1⟩], [], []⟩
    uplink := { Uplink.powerOn with flowOwed := [.go] } }

/-- The machine right after reset: VDD has been applied and no command waits (R140, R158, R173; log 32). -/
def State.reset : State := State.started .powerOn

end Sys2Proof.Machine
end

