-- ==== Sys2Proof/Machine/Flags.lean ====
section
/-! DEFINITION. Counter arithmetic, condition flags, conditions and decimal score arithmetic
(spec/05_counter_and_score_arithmetic.md). -/

namespace Sys2Proof.Machine

open Sys2Proof

/-! ### Counters -/

/-- The eight COUNT actions (R80). -/
inductive CountOp where
  | load
  | add
  | sub
  | and
  | or
  | xor
  | cmp
  | test
deriving DecidableEq, Repr

/-- The exact result e of R82, for a the target counter and b the operand. -/
def exactResult (op : CountOp) (a b : Half) : Int :=
  match op with
  | .load => b.toInt
  | .add => a.toInt + b.toInt
  | .sub => a.toInt - b.toInt
  | .cmp => a.toInt - b.toInt
  | .and => (a &&& b).toInt
  | .test => (a &&& b).toInt
  | .or => (a ||| b).toInt
  | .xor => (a ^^^ b).toInt

/-- The C flag of R82: the unsigned carry of an addition, the unsigned borrow of a subtraction or comparison. -/
def carryFlag (op : CountOp) (a b : Half) : Bool :=
  match op with
  | .add => 65536 ≤ a.toNat + b.toNat
  | .sub => a.toNat < b.toNat
  | .cmp => a.toNat < b.toNat
  | .load => false
  | .and => false
  | .or => false
  | .xor => false
  | .test => false

/-- The V flag of R82: e lies outside −32768 to 32767. The other operations keep e inside, so V is 0 there. -/
def overflowFlag (op : CountOp) (a b : Half) : Bool :=
  let e := exactResult op a b
  e < -32768 || 32767 < e

/-- The wrapped result w of R82: e read as a 16-bit pattern. -/
def wrapped (e : Int) : Half := BitVec.ofInt 16 e

/-- e raised to lo or lowered to hi (R83). -/
def clampTo (clamp : Clamp) (e : Int) : Int :=
  if e < clamp.lo.toInt then clamp.lo.toInt else if clamp.hi.toInt < e then clamp.hi.toInt else e

/-- The stored value of R83. -/
def storedValue (clamp : Option Clamp) (e : Int) : Half :=
  match clamp with
  | none => wrapped e
  | some c => wrapped (clampTo c e)

/-- The K flag of R83: the clamp changed e. -/
def clampActed (clamp : Option Clamp) (e : Int) : Bool :=
  match clamp with
  | none => false
  | some c => clampTo c e != e

/-- N and Z of a 16-bit value, with the given V, C and K. -/
def flagsOf (value : Half) (v c k : Bool) : Flags :=
  { n := value.msb, z := value == 0, v := v, c := c, k := k }

/-- The target counter's new value and the five flags of a COUNT action (R82, R83, R84). -/
def countAction (op : CountOp) (clamp : Option Clamp) (a b : Half) : Half × Flags :=
  let e := exactResult op a b
  let v := overflowFlag op a b
  let c := carryFlag op a b
  match op with
  | .cmp => (a, flagsOf (wrapped e) v c false)
  | .test => (a, flagsOf (wrapped e) v c false)
  | _ => (storedValue clamp e, flagsOf (storedValue clamp e) v c (clampActed clamp e))

/-- The sixteen conditions of R87, by code. -/
def condHolds (code : Fin 16) (f : Flags) : Bool :=
  match code.val with
  | 0 => true
  | 1 => f.z
  | 2 => !f.z
  | 3 => f.n
  | 4 => !f.n
  | 5 => f.c
  | 6 => !f.c
  | 7 => f.v
  | 8 => !f.v
  | 9 => !f.c && !f.z
  | 10 => f.c || f.z
  | 11 => f.n == f.v
  | 12 => f.n != f.v
  | 13 => !f.z && f.n == f.v
  | 14 => f.z || f.n != f.v
  | _ => f.k

/-- The target counter's new value and the flags of SET-IF (R85): 1 or 0 stored through the clamp, C and V kept. -/
def setIfAction (code : Fin 16) (clamp : Option Clamp) (flags : Flags) : Half × Flags :=
  let e : Int := if condHolds code flags then 1 else 0
  (storedValue clamp e, flagsOf (storedValue clamp e) flags.v flags.c (clampActed clamp e))

/-- The flags a guard tests: those of a COUNT-CMP of a with b (R88). -/
def guardFlags (a b : Half) : Flags := (countAction .cmp none a b).2

/-! ### Scores -/

/-- The number a score's four digits write (R90). -/
def Score.value (s : Score) : Nat :=
  1000 * s.thousands.val + 100 * s.hundreds.val + 10 * s.tens.val + s.units.val

/-- The score that writes n, 0 to 9999, with the given mark (R90). -/
def Score.ofNat (n : Nat) (saturated : Bool) : Score :=
  { thousands := ⟨n / 1000 % 10, Nat.mod_lt _ (by decide)⟩
    hundreds := ⟨n / 100 % 10, Nat.mod_lt _ (by decide)⟩
    tens := ⟨n / 10 % 10, Nat.mod_lt _ (by decide)⟩
    units := ⟨n % 10, Nat.mod_lt _ (by decide)⟩
    saturated := saturated }

/-- One digit of R92: the new digit and the carry out. -/
def addDigit (x y : Fin 10) (carry : Bool) : Fin 10 × Bool :=
  let d := x.val + y.val + carry.toNat
  if h : d ≤ 9 then (⟨d, by omega⟩, false)
  else (⟨d - 10, by have := x.isLt; have := y.isLt; have := carry.toNat_le; omega⟩, true)

/-- One digit of R93: the new digit and the borrow out. -/
def subDigit (x y : Fin 10) (borrow : Bool) : Fin 10 × Bool :=
  if h : y.val + borrow.toNat ≤ x.val then (⟨x.val - (y.val + borrow.toNat), by have := x.isLt; omega⟩, false)
  else (⟨x.val + 10 - (y.val + borrow.toNat), by have := y.isLt; have := borrow.toNat_le; omega⟩, true)

/-- SCORE-ADD of the digits of n to a score (R92). -/
def scoreAdd (s n : Score) : Score :=
  let u := addDigit s.units n.units false
  let t := addDigit s.tens n.tens u.2
  let h := addDigit s.hundreds n.hundreds t.2
  let th := addDigit s.thousands n.thousands h.2
  if th.2 then ⟨9, 9, 9, 9, true⟩ else ⟨th.1, h.1, t.1, u.1, false⟩

/-- SCORE-SUB of the digits of n from a score (R93). -/
def scoreSub (s n : Score) : Score :=
  let u := subDigit s.units n.units false
  let t := subDigit s.tens n.tens u.2
  let h := subDigit s.hundreds n.hundreds t.2
  let th := subDigit s.thousands n.thousands h.2
  if th.2 then ⟨0, 0, 0, 0, true⟩ else ⟨th.1, h.1, t.1, u.1, false⟩

end Sys2Proof.Machine
end

