-- ==== Sys2Proof/Machine/Operands.lean ====
section
/-! DEFINITION. Every field coding, request body and record layout the VQ412 decodes
(spec/11_frame_and_record_formats.md, R183 to R185, and the checks of R104). A parser answers `none` exactly where
the request's rule refuses INVALID on the body alone. -/

namespace Sys2Proof.Machine

open Sys2Proof

/-! ### Field codings (R183) -/

/-- A number field 0 to n − 1. -/
def numberField (n : Nat) (b : Byte) : Option (Fin n) :=
  if h : b.toNat < n then some ⟨b.toNat, h⟩ else none

/-- A yes/no or on/off field: 0 or 1. -/
def yesNoField (b : Byte) : Option Bool :=
  if b = 0 then some false else if b = 1 then some true else none

/-- An arm field: 0 A, 1 B. -/
def armField (b : Byte) : Option ArmId :=
  if b = 0 then some .a else if b = 1 then some .b else none

/-- A tile kind field: 1 PAD, 2 READER. -/
def tileKindField (b : Byte) : Option TileKind :=
  if b = 1 then some .pad else if b = 2 then some .reader else none

/-- A field holding a number 0 to n − 1 or the marker 255 for none or any. -/
def optionalField (n : Nat) (b : Byte) : Option (Option (Fin n)) :=
  if b = 255 then some none else (numberField n b).map some

/-- A piece seat byte: 0 to 5, or 7 for a neutral piece (R23 check 5). -/
def pieceSeatField (b : Byte) : Option PieceSeat :=
  if b = 7 then some .neutral else (numberField 6 b).map .player

/-- A two-byte field, most significant byte first. -/
def bigEndian (hi lo : Byte) : Half := hi ++ lo

/-- The most significant byte of a two-byte field. -/
def hiByte (w : Half) : Byte := w.extractLsb' 8 8

/-- The least significant byte of a two-byte field. -/
def loByte (w : Half) : Byte := w.extractLsb' 0 8

/-- Bits 4 to 7 of a byte. -/
def hiNibble (b : Byte) : Nat := b.toNat / 16

/-- Bits 0 to 3 of a byte. -/
def loNibble (b : Byte) : Nat := b.toNat % 16

/-- The arm of a tile map index, arm × 32 + position. -/
def indexArm (i : Fin 64) : ArmId := if i.val < 32 then .a else .b

/-- The position of a tile map index. -/
def indexPosition (i : Fin 64) : Fin 32 := ⟨i.val % 32, Nat.mod_lt _ (by decide)⟩

/-- The tile map index of a position: arm × 32 + position. -/
def tileIndex (arm : ArmId) (position : Fin 32) : Fin 64 :=
  match arm with
  | .a => ⟨position.val, by have := position.isLt; omega⟩
  | .b => ⟨32 + position.val, by have := position.isLt; omega⟩

/-! ### Request bodies -/

/-- A body of one number field. -/
def oneNumber (n : Nat) (body : List Byte) : Option (Fin n) :=
  match body with
  | [b] => numberField n b
  | _ => none

/-- A body of one arm index (R33, R35, R44). -/
def oneArm (body : List Byte) : Option ArmId :=
  match body with
  | [b] => armField b
  | _ => none

/-- A body of one on/off value (R40). -/
def oneOnOff (body : List Byte) : Option Bool :=
  match body with
  | [b] => yesNoField b
  | _ => none

/-- The four setup values (R136). -/
structure SetupRequest where
  seatCount : Nat
  highMark : Nat
  unclaimedEcho : Bool
  scrub : Bool
deriving DecidableEq, Repr

/-- SETUP: seat count 1 to 6, high mark 1 to 16, two on/off values (R136). -/
def parseSetup (body : List Byte) : Option SetupRequest :=
  match body with
  | [seats, mark, unclaimed, scrub] =>
    match yesNoField unclaimed, yesNoField scrub with
    | some u, some c =>
      if 1 ≤ seats.toNat ∧ seats.toNat ≤ 6 ∧ 1 ≤ mark.toNat ∧ mark.toNat ≤ 16 then
        some ⟨seats.toNat, mark.toNat, u, c⟩
      else none
    | _, _ => none
  | _ => none

/-- TILE-WRITE: a record index and the four fields (R3). -/
def parseTileWrite (body : List Byte) : Option (Fin 64 × TileRec) :=
  match body with
  | [index, excluded, kind, zone, echo] =>
    match numberField 64 index, yesNoField excluded, tileKindField kind, numberField 16 zone, yesNoField echo with
    | some i, some x, some k, some z, some e => some (i, ⟨x, k, z, e⟩)
    | _, _, _, _, _ => none
  | _ => none

/-- SCORE-SET: a seat 0 to 5 and a score 0 to 9999 (R95). -/
def parseScoreSet (body : List Byte) : Option (Fin 6 × Nat) :=
  match body with
  | [seat, hi, lo] =>
    match numberField 6 seat with
    | some s => if (bigEndian hi lo).toNat ≤ 9999 then some (s, (bigEndian hi lo).toNat) else none
    | none => none
  | _ => none

/-- The effect address of an EFFECT-SEND: mode 1 TILE, 2 ZONE, 3 ALL, whose value is not read (R55). -/
def effectAddrField (mode value : Byte) : Option EffectAddr :=
  if mode = 1 then (numberField 32 value).map .tile
  else if mode = 2 then (numberField 16 value).map .zone
  else if mode = 3 then some .all
  else none

/-- The effect of an EFFECT-SEND with the bytes after it: 1 LIGHT and 2 SOUND carry one byte, 3 DARK none (R55). -/
def effectField (kind : Byte) (rest : List Byte) : Option Effect :=
  if kind = 1 then (match rest with | [p] => some (.light p) | _ => none)
  else if kind = 2 then (match rest with | [c] => some (.sound c) | _ => none)
  else if kind = 3 then (match rest with | [] => some .dark | _ => none)
  else none

/-- EFFECT-SEND: an arm, an address and an effect (R55 step 1). -/
def parseEffectSend (body : List Byte) : Option (ArmId × EffectEntry) :=
  match body with
  | arm :: mode :: value :: kind :: rest =>
    match armField arm, effectAddrField mode value, effectField kind rest with
    | some ar, some addr, some effect => some (ar, ⟨addr, effect⟩)
    | _, _, _ => none
  | _ => none

/-! ### Quest definitions -/

/-- Byte n of a body, 0 past its end; used only after the body's length is checked. -/
def byteAt (body : List Byte) (n : Nat) : Byte := body.getD n 0

/-- A two-byte field of a body, most significant byte first. -/
def halfAt (body : List Byte) (n : Nat) : Half := bigEndian (byteAt body n) (byteAt body (n + 1))

/-- Counter c of a QUEST-WRITE body: initial value, and lo and hi when its clamp is present (R62). -/
def counterField (body : List Byte) (c : Fin 4) : Option CounterDef :=
  let initial := halfAt body (8 + 6 * c.val)
  let lo := halfAt body (10 + 6 * c.val)
  let hi := halfAt body (12 + 6 * c.val)
  if (byteAt body 5).getLsbD (4 + c.val) then
    if lo.toInt ≤ hi.toInt ∧ lo.toInt ≤ initial.toInt ∧ initial.toInt ≤ hi.toInt then some ⟨initial, some ⟨lo, hi⟩⟩
    else none
  else some ⟨initial, none⟩

/-- On-timeout: 0 FAIL, 1 EVENT. -/
def onTimeoutField (b : Byte) : Option OnTimeout :=
  if b = 0 then some .fail else if b = 1 then some .event else none

/-- The start timer of a QUEST-WRITE body: absent, or present with 1 to 65535 ticks (R62). -/
def startTimerField (body : List Byte) : Option (Option Half) :=
  if (byteAt body 5).getLsbD 0 then
    if halfAt body 6 = 0 then none else some (some (halfAt body 6))
  else some none

/-- The prerequisite of a QUEST-WRITE body: none, or a quest other than the quest itself (R62). -/
def prerequisiteField (quest : Fin 16) (b : Byte) : Option (Option (Fin 16)) :=
  match optionalField 16 b with
  | some (some k) => if k = quest then none else some (some k)
  | some none => some none
  | none => none

/-- QUEST-WRITE: a quest index and a whole definition (R62). -/
def parseQuestWrite (body : List Byte) : Option (Fin 16 × QuestDef) :=
  if body.length = 32 then
    match numberField 16 (byteAt body 0) with
    | none => none
    | some q =>
      match numberField 16 (byteAt body 1), prerequisiteField q (byteAt body 2), optionalField 6 (byteAt body 3),
        onTimeoutField (byteAt body 4), startTimerField body with
      | some final, some pre, some owner, some timeout, some start =>
        match counterField body 0, counterField body 1, counterField body 2, counterField body 3 with
        | some c0, some c1, some c2, some c3 =>
          some (q, { finalStage := final, prerequisite := pre, owner := owner, onTimeout := timeout,
                     startTimer := start, counters := #v[c0, c1, c2, c3] })
        | _, _, _, _ => none
      | _, _, _, _, _ => none
  else none

/-! ### Rule records (R101 to R104) -/

/-- The trigger kinds (R101). -/
inductive Trigger where
  | press
  | release
  | place
  | lift
  | tileAny
  | timer
  | injected
deriving DecidableEq, Repr

/-- The place of a rule (R101). -/
inductive Place where
  | any
  | zone (zone : Fin 16)
  | tile (index : Fin 64)
  | quest (quest : Fin 16)
  | code (code : Byte)
deriving DecidableEq, Repr

/-- The piece filter of a rule (R101). -/
inductive PieceFilter where
  | any
  | piece (id : Fin 64)
  | seat (seat : Fin 6)
  | turnSeat
  | neutral
deriving DecidableEq, Repr

/-- A quest gate: a quest and a stage, none for any stage (R101, R112). -/
structure Gate where
  quest : Fin 16
  stage : Option (Fin 16)
deriving DecidableEq, Repr

/-- The source of a guard (R89). -/
inductive GuardSource where
  | none
  | counter (counter : Fin 4)
  | seatScore (seat : Fin 6)
  | turnScore
deriving DecidableEq, Repr

/-- A guard (R88). -/
structure Guard where
  source : GuardSource
  condition : Fin 16
  operand : Half
deriving DecidableEq, Repr

/-- The operand of a COUNT action (R81). -/
inductive CountOperand where
  | constant (value : Half)
  | counter (counter : Fin 4)
deriving DecidableEq, Repr

/-- The seat selector of a score action (R91). -/
inductive SeatSelector where
  | seat (seat : Fin 6)
  | turn
  | pieceOwner
  | questOwner
deriving DecidableEq, Repr

/-- The target of an effect action (R52 to R54, R103). -/
inductive EffectTarget where
  | source
  | tile (index : Fin 64)
  | zone (zone : Fin 16)
  | all
deriving DecidableEq, Repr

/-- The 26 action kinds with the selector and value fields each reads (R102). -/
inductive ActionKind where
  | count (op : CountOp) (target : Fin 4) (operand : CountOperand)
  | setIf (target : Fin 4)
  | scoreAdd (seat : SeatSelector) (amount : Fin 10000)
  | scoreSub (seat : SeatSelector) (amount : Fin 10000)
  | stageAdvance
  | stageSet (stage : Fin 16)
  | questStart (quest : Fin 16)
  | questComplete
  | questFail
  | timerStart (ticks : Half)
  | timerStop
  | effect (effect : Effect) (target : EffectTarget)
  | turnNext
  | turnSet (seat : Fin 6)
  | signal (code : Byte)
  | ruleEnable (rule : Fin 256)
  | ruleDisable (rule : Fin 256)
deriving DecidableEq, Repr

/-- An action: its kind and its condition code (R101). -/
structure Action where
  kind : ActionKind
  condition : Fin 16
deriving DecidableEq, Repr

/-- A rule record as the scan reads it (R101). -/
structure RuleRecord where
  trigger : Trigger
  place : Place
  piece : PieceFilter
  home : Option (Fin 16)
  gate : Option Gate
  guard : Guard
  chain : Bool
  singleShot : Bool
  startDisabled : Bool
  actions : List Action
deriving DecidableEq, Repr

/-- Trigger kind codes (byte 0). -/
def triggerField (b : Byte) : Option Trigger :=
  match b.toNat with
  | 1 => some .press
  | 2 => some .release
  | 3 => some .place
  | 4 => some .lift
  | 5 => some .tileAny
  | 6 => some .timer
  | 7 => some .injected
  | _ => none

/-- Place mode (bits 4 to 7 of byte 2) and place value (byte 3). -/
def placeField (mode : Nat) (value : Byte) : Option Place :=
  match mode with
  | 0 => some .any
  | 1 => (numberField 16 value).map .zone
  | 2 => (numberField 64 value).map .tile
  | 3 => (numberField 16 value).map .quest
  | 4 => some (.code value)
  | _ => none

/-- Piece filter mode (bits 0 to 3 of byte 2) and piece value (byte 4). -/
def pieceFilterField (mode : Nat) (value : Byte) : Option PieceFilter :=
  match mode with
  | 0 => some .any
  | 1 => (numberField 64 value).map .piece
  | 2 => (numberField 6 value).map .seat
  | 3 => some .turnSeat
  | 4 => some .neutral
  | _ => none

/-- Gate quest and gate stage (bytes 6 and 7); a stage without a quest is refused (R104). -/
def gateField (quest stage : Byte) : Option (Option Gate) :=
  match optionalField 16 quest, optionalField 16 stage with
  | some (some q), some st => some (some ⟨q, st⟩)
  | some none, some none => some none
  | _, _ => none

/-- Guard source (byte 8): bits 4 to 7 the source, bits 0 to 3 its counter or seat. -/
def guardSourceField (b : Byte) : Option GuardSource :=
  match hiNibble b with
  | 0 => some .none
  | 1 => (numberField 4 (b &&& 0x0F)).map .counter
  | 2 => (numberField 6 (b &&& 0x0F)).map .seatScore
  | 3 => some .turnScore
  | _ => none

/-- The low nibble of a byte as a code 0 to 15. -/
def nibbleCode (n : Nat) : Fin 16 := ⟨n % 16, Nat.mod_lt _ (by decide)⟩

/-- The COUNT kinds' codes 1 to 8. -/
def countOpOf (kind : Nat) : Option CountOp :=
  match kind with
  | 1 => some .load
  | 2 => some .add
  | 3 => some .sub
  | 4 => some .and
  | 5 => some .or
  | 6 => some .xor
  | 7 => some .cmp
  | 8 => some .test
  | _ => none

/-- A number field of a 16-bit value read unsigned, 0 to n − 1. -/
def valueField (n : Nat) (w : Half) : Option (Fin n) :=
  if h : w.toNat < n then some ⟨w.toNat, h⟩ else none

/-- The target counter and operand of a COUNT action (R81, R102). -/
def countFields (op : CountOp) (selector : Nat) (value : Half) : Option ActionKind :=
  if h : selector < 4 then some (.count op ⟨selector, h⟩ (.constant value))
  else if h : selector - 4 < 4 then (valueField 4 value).map fun c => .count op ⟨selector - 4, h⟩ (.counter c)
  else none

/-- The seat selector of a score action: 0 to 5, 6 TURN, 7 PIECE-OWNER, 8 QUEST-OWNER (R102). -/
def seatSelectorField (selector : Nat) : Option SeatSelector :=
  if h : selector < 6 then some (.seat ⟨selector, h⟩)
  else if selector = 6 then some .turn
  else if selector = 7 then some .pieceOwner
  else if selector = 8 then some .questOwner
  else none

/-- The target of an effect action: selector, and the address in the value's high byte (R103). -/
def effectTargetField (selector : Nat) (value : Half) : Option EffectTarget :=
  match selector with
  | 0 => some .source
  | 1 => (numberField 64 (hiByte value)).map .tile
  | 2 => (numberField 16 (hiByte value)).map .zone
  | 3 => some .all
  | _ => none

/-- An action's kind with the fields it reads, checked as R104 gives. -/
def actionKindField (kind : Byte) (selector : Nat) (value : Half) : Option ActionKind :=
  match kind.toNat with
  | 9 => if h : selector < 4 then some (.setIf ⟨selector, h⟩) else none
  | 10 => (seatSelectorField selector).bind fun s => (valueField 10000 value).map fun n => .scoreAdd s n
  | 11 => (seatSelectorField selector).bind fun s => (valueField 10000 value).map fun n => .scoreSub s n
  | 12 => some .stageAdvance
  | 13 => (valueField 16 value).map .stageSet
  | 14 => some (.questStart (nibbleCode selector))
  | 15 => some .questComplete
  | 16 => some .questFail
  | 17 => if value = 0 then none else some (.timerStart value)
  | 18 => some .timerStop
  | 19 => (effectTargetField selector value).map (.effect (.light (loByte value)))
  | 20 => (effectTargetField selector value).map (.effect (.sound (loByte value)))
  | 21 => (effectTargetField selector value).map (.effect .dark)
  | 22 => some .turnNext
  | 23 => if h : selector < 6 then some (.turnSet ⟨selector, h⟩) else none
  | 24 => (valueField 256 value).map fun _ => .signal (loByte value)
  | 25 => (valueField 256 value).map .ruleEnable
  | 26 => (valueField 256 value).map .ruleDisable
  | k => (countOpOf k).bind fun op => countFields op selector value

/-- One action from its four bytes: kind; condition and selector; value. -/
def actionField (kind cs hi lo : Byte) : Option Action :=
  (actionKindField kind (loNibble cs) (bigEndian hi lo)).map fun k => ⟨k, nibbleCode (hiNibble cs)⟩

/-- The kinds that are home-quest actions whatever their condition (R65, R102). -/
def ActionKind.needsHome : ActionKind → Bool
  | .count _ _ _ => true
  | .setIf _ => true
  | .stageAdvance => true
  | .stageSet _ => true
  | .questComplete => true
  | .questFail => true
  | .timerStart _ => true
  | .timerStop => true
  | .scoreAdd _ _ => false
  | .scoreSub _ _ => false
  | .questStart _ => false
  | .effect _ _ => false
  | .turnNext => false
  | .turnSet _ => false
  | .signal _ => false
  | .ruleEnable _ => false
  | .ruleDisable _ => false

/-- A home-quest action: of a home-quest kind, or with a condition other than ALWAYS (R65). -/
def Action.isHome (a : Action) : Bool := a.kind.needsHome || a.condition != 0

/-- The fit of trigger and place (R104). -/
def triggerFits (t : Trigger) (p : Place) : Bool :=
  match p with
  | .any => true
  | .zone _ => t != .timer && t != .injected
  | .tile _ => t != .timer && t != .injected
  | .quest _ => t == .timer
  | .code _ => t == .injected

/-- A guard whose source is a counter. -/
def GuardSource.isCounter : GuardSource → Bool
  | .counter _ => true
  | .none => false
  | .seatScore _ => false
  | .turnScore => false

/-- A record with no home quest has no home-quest action and no COUNTER guard (R104). -/
def homeFits (r : RuleRecord) : Bool :=
  r.home.isSome || (!r.actions.any Action.isHome && !r.guard.source.isCounter)

/-- Byte n of a rule record: bits 8 n to 8 n + 7 of its 224 data bits (R141). -/
def recordByte (data : BitVec 224) (n : Nat) : Byte := data.extractLsb' (8 * n) 8

/-- The number of actions a record declares: bits 0 and 1 of byte 1, plus one. -/
def actionCount (byte1 : Byte) : Nat := byte1.toNat % 4 + 1

/-- Action i, 0 to 3, of a record. -/
def recordAction (data : BitVec 224) (i : Nat) : Option Action :=
  actionField (recordByte data (12 + 4 * i)) (recordByte data (13 + 4 * i))
    (recordByte data (14 + 4 * i)) (recordByte data (15 + 4 * i))

/-- The declared actions of a record, in order; none if one of them fails its checks. -/
def recordActions (data : BitVec 224) : Option (List Action) :=
  ((List.range 4).take (actionCount (recordByte data 1))).mapM (recordAction data)

/-- The guard of a record; with source NONE, bytes 9 to 11 are not read. -/
def recordGuard (data : BitVec 224) : Option Guard :=
  (guardSourceField (recordByte data 8)).map fun src =>
    ⟨src, nibbleCode (loNibble (recordByte data 9)), bigEndian (recordByte data 10) (recordByte data 11)⟩

/-- The record that 224 data bits hold, or none where the checks of R104 refuse it. -/
def decodeRule (data : BitVec 224) : Option RuleRecord :=
  let b := recordByte data
  match triggerField (b 0), placeField (hiNibble (b 2)) (b 3), pieceFilterField (loNibble (b 2)) (b 4),
    optionalField 16 (b 5), gateField (b 6) (b 7), recordGuard data, recordActions data with
  | some t, some p, some f, some home, some gate, some guard, some actions =>
    let r : RuleRecord :=
      { trigger := t, place := p, piece := f, home := home, gate := gate, guard := guard,
        chain := (b 1).getLsbD 4, singleShot := (b 1).getLsbD 5, startDisabled := (b 1).getLsbD 6,
        actions := actions }
    if triggerFits t p && homeFits r then some r else none
  | _, _, _, _, _, _, _ => none

/-- The 224 data bits of record bytes: bit b of byte n at position 8 n + b (R141); bytes past the list's end are 0
and bytes past byte 27 are not taken. -/
def packRecord (bytes : List Byte) : BitVec 224 :=
  (bytes.foldr (fun b (acc : BitVec 224) => (acc <<< 8) ||| b.setWidth 224) 0)

/-- The 28 bytes of 224 data bits. -/
def unpackRecord (data : BitVec 224) : List Byte := (List.range 28).map (recordByte data)

/-- RULE-WRITE: the index and the record, zero bytes filling the unused action slots (R104, R184). -/
def parseRuleWrite (body : List Byte) : Option (Fin 256 × BitVec 224 × RuleRecord) :=
  match body with
  | index :: bytes =>
    if bytes.length = 12 + 4 * actionCount (byteAt bytes 1) then
      (decodeRule (packRecord bytes)).map fun r => (index.toFin, packRecord bytes, r)
    else none
  | _ => none

/-- The flip positions of a RAW-WRITE, each 0 to 232 (R152). -/
def flipFields (flips : List Byte) : Option (List (Fin 233)) := flips.mapM (numberField 233)

/-- RAW-WRITE: the index, the 28 data bytes and 0 to 2 flip positions (R152). -/
def parseRawWrite (body : List Byte) : Option (Fin 256 × BitVec 224 × List (Fin 233)) :=
  match body with
  | index :: count :: rest =>
    if count.toNat ≤ 2 ∧ rest.length = 28 + count.toNat then
      (flipFields (rest.drop 28)).map fun f => (index.toFin, packRecord (rest.take 28), f)
    else none
  | _ => none

/-! ### Arm answers (R23, R179, R180) -/

/-- What a valid answer says: IDLE, HELLO with the tile kind, or an event with its toggle and more bits. -/
inductive Answer where
  | idle
  | hello (kind : TileKind)
  | event (event : TileEvent) (toggle more : Bool)
deriving DecidableEq, Repr

/-- The four line error counts (R20). -/
inductive LineError where
  | framing
  | check
  | shape
  | stray
deriving DecidableEq, Repr

/-- The upstream kinds: bits 4 to 7 of the head byte and the frame length (R21, R179). -/
def upstreamLength (kind : Nat) : Option Nat :=
  match kind with
  | 0x8 => some 3
  | 0x9 => some 4
  | 0xA => some 3
  | 0xB => some 3
  | 0xC => some 5
  | 0xD => some 5
  | _ => none

/-- The check byte over the bytes before it: their exclusive OR, exclusive-ORed with 0x5A (R179). -/
def armCheck (bytes : List Byte) : Byte := (bytes.foldl (· ^^^ ·) 0) ^^^ 0x5A

/-- A piece from its two body bytes, in range (R23 check 5). -/
def pieceField (id seat : Byte) : Option Piece :=
  match numberField 64 id, pieceSeatField seat with
  | some i, some s => some ⟨i, s⟩
  | _, _ => none

/-- The answer that a head byte and body bytes spell, where the body values are in range (R23 check 5, R180). -/
def answerOf (head : Byte) (body : List Byte) : Option Answer :=
  let toggle := head.getLsbD 0
  let more := head.getLsbD 2
  match hiNibble head, body with
  | 0x8, [] => some .idle
  | 0x9, [k] => (tileKindField k).map .hello
  | 0xA, [] => some (.event .press toggle more)
  | 0xB, [] => some (.event .release toggle more)
  | 0xC, [i, s] => (pieceField i s).map fun p => .event (.place p) toggle more
  | 0xD, [i, s] => (pieceField i s).map fun p => .event (.lift p) toggle more
  | _, _ => none

/-- An answer is HELLO. -/
def Answer.isHello : Answer → Bool
  | .hello _ => true
  | .idle => false
  | .event _ _ _ => false

/-- The judgement of a received answer by the six checks of R23, in their order. -/
def judgeAnswer (poll : Poll) (bytes : List LineByte) : Except LineError Answer :=
  let vs := bytes.map (·.value)
  let head := byteAt vs 0
  if bytes.any (fun b => !b.stopOk) then .error .framing
  else if upstreamLength (hiNibble head) ≠ some vs.length then .error .shape
  else if armCheck vs.dropLast ≠ byteAt vs (vs.length - 1) then .error .check
  else if (byteAt vs 1).toNat ≠ poll.position.val then .error .stray
  else
    match answerOf head (vs.dropLast.drop 2) with
    | none => .error .shape
    | some ans => if poll.greeting && !ans.isHello then .error .shape else .ok ans

end Sys2Proof.Machine
end

