-- ==== Sys2Proof/Machine/Ops.lean ====
section
/-! DEFINITION. The shared operations: block accessors, alerts (R156), notices (R159, R160), replies (R177), the
presence reset (R9), the request handler's gate (R174), rule memory's code and checked read (R142 to R145). -/

namespace Sys2Proof.Machine

open Sys2Proof

/-! ### One block at a time -/

/-- The other arm. -/
def ArmId.other : ArmId → ArmId
  | .a => .b
  | .b => .a

/-- The controller of an arm. -/
def State.arm (s : State) (i : ArmId) : Arm :=
  match i with
  | .a => s.armA
  | .b => s.armB

/-- The state with one arm controller replaced. -/
def State.withArm (s : State) (i : ArmId) (x : Arm) : State :=
  match i with
  | .a => { s with armA := x }
  | .b => { s with armB := x }

/-- The state with the tile map replaced. -/
def State.withTileMap (s : State) (x : Vector TileRec 64) : State := { s with tileMap := x }

/-- The state with the engine replaced. -/
def State.withEngine (s : State) (x : Engine) : State := { s with engine := x }

/-- The state with the quest timers replaced. -/
def State.withTimers (s : State) (x : Vector Timer 16) : State := { s with timers := x }

/-- The state with rule memory replaced. -/
def State.withMemory (s : State) (x : RuleMemory) : State := { s with memory := x }

/-- The state with the notice queues replaced. -/
def State.withNotices (s : State) (x : Notices) : State := { s with notices := x }

/-- The state with the uplink port replaced. -/
def State.withUplink (s : State) (x : Uplink) : State := { s with uplink := x }

/-- The state with the request handler's phase replaced. -/
def State.withHandler (s : State) (x : Handler) : State := { s with handler := x }

/-- The state with the steps that fall inside the coming event items replaced. -/
def State.withMeanwhile (s : State) (x : List (List Aside)) : State := { s with meanwhile := x }

/-- The state with the number of TILE-WRITEs applied so far replaced (log 35). -/
def State.withTileWrites (s : State) (x : Nat) : State := { s with tileWrites := x }

/-- The tile map record of a position (R1). -/
def State.mapRec (s : State) (i : ArmId) (p : Fin 32) : TileRec := s.tileMap[tileIndex i p]

/-- The presence record of a position (R9). -/
def State.presence (s : State) (i : ArmId) (p : Fin 32) : PresenceRec := (s.arm i).presence[p]

/-- The arm controller with one presence record replaced. -/
def Arm.withPresence (x : Arm) (p : Fin 32) (r : PresenceRec) : Arm := { x with presence := x.presence.set p r }

/-- ENUMERATING or RUNNING: the arm drives and receives its pair (R36). -/
def Arm.active (x : Arm) : Bool := x.phase == .enumerating || x.phase == .running

/-- One more, stopping at a limit (R37, R144, R145, R156). -/
def saturate (limit n : Nat) : Nat := if n < limit then n + 1 else n

/-- One more on the line error count that a fault names (R23, R37). -/
def Arm.countError (x : Arm) (e : LineError) : Arm :=
  match e with
  | .framing => { x with framing := saturate 255 x.framing }
  | .check => { x with check := saturate 255 x.check }
  | .shape => { x with shape := saturate 255 x.shape }
  | .stray => { x with stray := saturate 255 x.stray }

/-! ### Alerts and notices -/

/-- Equality in kind and subject (R155): content is left out of the comparison. -/
def Alert.sameSubject (x y : Alert) : Bool :=
  match x, y with
  | .ruleFault i _ _, .ruleFault j _ _ => i == j
  | _, _ => x == y

/-- The first entry equal in kind and subject counts one more occurrence (R156). -/
def coalesce (q : List AlertEntry) (al : Alert) : List AlertEntry :=
  match q with
  | [] => []
  | e :: rest =>
    if e.alert.sameSubject al then { e with count := saturate 255 e.count } :: rest else e :: coalesce rest al

/-- What an alert does to the ALERT queue: coalesce, join, or be discarded (R156, R157). -/
def raiseAlert (q : List AlertEntry) (al : Alert) : List AlertEntry :=
  if q.any (fun e => e.alert.sameSubject al) then coalesce q al
  else if q.length < Config.alertCapacity then q ++ [⟨al, 1⟩]
  else q

/-- A block raises an alert (R156). -/
def State.raise (s : State) (al : Alert) : State :=
  s.withNotices { s.notices with alerts := raiseAlert s.notices.alerts al }

/-- The engine appends a quest notice (R159). -/
def State.notify (s : State) (n : QuestNotice) : State :=
  s.withNotices { s.notices with quests := s.notices.quests ++ [n] }

/-- The engine appends an ECHO (R160). -/
def State.placeEcho (s : State) (e : Echo) : State :=
  s.withNotices { s.notices with events := s.notices.events ++ [e] }

/-! ### Presence resets -/

/-- The presence record a reset of R9 writes: EXCLUDED or UNKNOWN as the map says. -/
def freshPresence (r : TileRec) : PresenceRec := PresenceRec.fresh (if r.excluded then .excluded else .unknown)

/-- All presence records of an arm after a presence reset (R9). -/
def State.resetPresence (s : State) (i : ArmId) : Vector PresenceRec 32 :=
  Vector.ofFn fun p => freshPresence (s.mapRec i p)

/-! ### Replies and the request handler -/

/-- An OK reply (R177, R182). -/
def Reply.done (kind : Byte) (body : List Byte) : Reply := ⟨kind, .ok, body⟩

/-- An INVALID reply (R177, R182). -/
def Reply.invalid (kind : Byte) : Reply := ⟨kind, .invalid, []⟩

/-- A BUSY reply (R177, R182). -/
def Reply.busy (kind : Byte) : Reply := ⟨kind, .busy, []⟩

/-- The part works: RSTN is not low (R173). -/
def State.alive (s : State) : Bool := !s.rstnLow

/-- The handler holds no request and no complete frame waits ahead: a request that comes up now is served now
(R174; log 3). -/
def State.handlerFree (s : State) : Bool := s.alive && s.handler == .idle && s.uplink.frames.isEmpty

/-- A management item of this kind and body may be taken: the engine is idle and the request is the pending one, or
the handler is free to take it now (R122, R123, R174; log 3). The arbiter ranks it ahead of every event item. -/
def State.mayServe (s : State) (kind : Byte) (body : List Byte) : Bool :=
  s.alive && s.engine.inFlight.isNone && (s.handler == .pending kind body || s.handlerFree)

/-- A request served directly by the handler: its reply becomes pending at once (R174, R175). -/
def serveDirect (item : List Byte → State → State × Reply) (body : List Byte) (s : State) : State :=
  if s.handlerFree then (item body s).1.withHandler (.reply (item body s).2) else s

/-- The engine takes an item (R121, R123). -/
def State.take (s : State) (w : WorkItem) : State := s.withEngine { s.engine with inFlight := some w }

/-- The engine's item ends (R128, R135). -/
def State.endItem (s : State) : State := s.withEngine { s.engine with inFlight := none }

/-- A management item from its take to its end, the reply handed to the request handler (R135, R174). -/
def serveItem (kind : Byte) (item : List Byte → State → State × Reply) (body : List Byte) (s : State) : State :=
  if s.mayServe kind body then
    let done := item body (s.take (.management kind body))
    done.1.endItem.withHandler (.reply done.2)
  else s

/-! ### The code of rule memory (R142, R143)

The definitions that run over all the bits of an entry are irreducible, so that no proof evaluates them by accident;
`unfold` and the kernel still see them. -/

/-- The column number of a stored position (R142). Position 232 has no column: 0 stands for that (log 18). -/
def column (p : Nat) : Nat :=
  if p = 0 then 3
  else if p ≤ 3 then p + 4
  else if p ≤ 10 then p + 5
  else if p ≤ 25 then p + 6
  else if p ≤ 56 then p + 7
  else if p ≤ 119 then p + 8
  else if p ≤ 223 then p + 9
  else if p ≤ 231 then 2 ^ (p - 224)
  else 0

/-- The exclusive OR of the columns of the positions below n that hold 1. -/
def columnSum (e : BitVec 233) : Nat → Nat
  | 0 => 0
  | n + 1 => if e.getLsbD n then columnSum e n ^^^ column n else columnSum e n

/-- Whether the number of positions below n that hold 1 is odd. -/
def oddOnes (e : BitVec 233) : Nat → Bool
  | 0 => false
  | n + 1 => oddOnes e n ^^ e.getLsbD n

/-- The syndrome S of an entry, over positions 0 to 231 (R143). -/
@[irreducible] def syndrome (e : BitVec 233) : Nat := columnSum e 232

/-- The parity P of an entry, over positions 0 to 232 (R143). -/
@[irreducible] def parity (e : BitVec 233) : Bool := oddOnes e 233

/-- The data bits of an entry: positions 0 to 223 (R141). -/
def entryData (e : BitVec 233) : BitVec 224 := e.setWidth 224

/-- An entry with one stored position inverted (R141, R143). -/
def flipBit (e : BitVec 233) (p : Fin 233) : BitVec 233 := e ^^^ ((1 : BitVec 233) <<< p.val)

/-- The entry written from a record: check positions 224 to 231 from the columns of the data bits, then position 232
for an even number of ones (R142). -/
@[irreducible] def encodeEntry (data : BitVec 224) : BitVec 233 :=
  let d : BitVec 233 := data.setWidth 233
  let withCheck := d ||| ((BitVec.ofNat 233 (columnSum d 224)) <<< 224)
  if oddOnes withCheck 232 then withCheck ||| ((1 : BitVec 233) <<< 232) else withCheck

/-- The outcomes of a checked read (R143). -/
inductive ReadOutcome where
  | clean
  | oneChanged (position : Fin 233)
  | twoChanged
deriving DecidableEq, Repr

/-- The position whose column is S; the position without a column for S = 0 (R143). -/
@[irreducible] def positionOfColumn (S : Nat) : Option (Fin 233) := (List.finRange 233).find? fun p => column p.val == S

/-- The outcome that S and P give (R143). -/
def readOutcome (e : BitVec 233) : ReadOutcome :=
  if parity e then
    match positionOfColumn (syndrome e) with
    | some p => .oneChanged p
    | none => .twoChanged
  else if syndrome e = 0 then .clean
  else .twoChanged

/-! ### Checked reads (R144, R145, R149, R150) -/

/-- An empty capture record is filled; a full one is not changed (R144 to R146). -/
def RuleMemory.captured (m : RuleMemory) (c : Capture) : RuleMemory :=
  match m.capture with
  | none => { m with capture := some c }
  | some _ => m

/-- An entry is written whole, and a scrubber write-back pending for it is cancelled (R141, R149, R151, R152). -/
def RuleMemory.write (m : RuleMemory) (i : Fin 256) (e : BitVec 233) : RuleMemory :=
  { m with
    entries := m.entries.set i e
    writeBack := match m.writeBack with
      | some w => if w.rule = i then none else some w
      | none => none }

/-- A correction is written at once by a scan fetch or a RULE-READ, and becomes the pending write-back of a scrubber
visit (R144, R149). -/
def RuleMemory.correct (m : RuleMemory) (found : FoundBy) (i : Fin 256) (e : BitVec 233) : RuleMemory :=
  match found with
  | .scan => m.write i e
  | .read => m.write i e
  | .scrub => { m with writeBack := some ⟨i, e⟩ }

/-- A rule that a read with two changed bits withdraws (R145). -/
def quarantined (r : RuleState) : RuleState :=
  match r with
  | .enabled => .quarantined
  | .disabled => .quarantined
  | .spent => .quarantined
  | .empty => .empty
  | .quarantined => .quarantined

/-- The rule states with one replaced. -/
def Engine.withRule (g : Engine) (i : Fin 256) (r : RuleState) : Engine := { g with rules := g.rules.set i r }

/-- What a read with one changed bit does to rule memory (R144). -/
def State.noteCorrected (s : State) (found : FoundBy) (i : Fin 256) (p : Fin 233) (fixed : BitVec 233) : State :=
  let m := { s.memory with corrected := saturate 65535 s.memory.corrected }
  s.withMemory ((m.captured ⟨.corrected p, i, found⟩).correct found i fixed)

/-- What a read with two changed bits does: quarantine, count, capture, RULE-LOST (R145). -/
def State.noteLost (s : State) (found : FoundBy) (i : Fin 256) : State :=
  let m := { s.memory with uncorrectable := saturate 255 s.memory.uncorrectable }
  let s1 := s.withMemory (m.captured ⟨.uncorrectable, i, found⟩)
  (s1.withEngine (s1.engine.withRule i (quarantined s1.engine.rules[i]))).raise (.ruleLost i)

/-- A checked read of entry i with all its effects, and the record used, if any (R144, R145). -/
def checkedRead (found : FoundBy) (i : Fin 256) (s : State) : State × Option (BitVec 224) :=
  let e := s.memory.entries[i]
  match readOutcome e with
  | .clean => (s, some (entryData e))
  | .oneChanged p =>
    let data := entryData (flipBit e p)
    (s.noteCorrected found i p (encodeEntry data), some data)
  | .twoChanged => (s.noteLost found i, none)

end Sys2Proof.Machine
end

