-- ==== Sys2Proof/Machine/Formats.lean ====
section
/-! DEFINITION. Every frame and reply content the VQ412 builds (spec/11_frame_and_record_formats.md, R164, R179 to R185). -/

namespace Sys2Proof.Machine

open Sys2Proof

/-! ### Codes (R183) -/

/-- A number as a byte. -/
def byteOf (n : Nat) : Byte := BitVec.ofNat 8 n

/-- A 16-bit value, most significant byte first. -/
def halfBytes (w : Half) : List Byte := [hiByte w, loByte w]

/-- A number 0 to 65535 in two bytes. -/
def numberBytes (n : Nat) : List Byte := halfBytes (BitVec.ofNat 16 n)

/-- A yes/no value. -/
def yesNoCode (b : Bool) : Byte := if b then 1 else 0

/-- An arm index. -/
def armCode (i : ArmId) : Byte :=
  match i with
  | .a => 0
  | .b => 1

/-- A tile kind. -/
def tileKindCode (k : TileKind) : Byte :=
  match k with
  | .pad => 1
  | .reader => 2

/-- A presence state. -/
def presenceCode (p : Presence) : Byte :=
  match p with
  | .unknown => 0
  | .present => 1
  | .absent => 2
  | .mismatch => 3
  | .excluded => 4

/-- An arm state. -/
def armPhaseCode (p : ArmPhase) : Byte :=
  match p with
  | .off => 0
  | .enumerating => 1
  | .running => 2
  | .faulted => 3

/-- A rule state. -/
def ruleStateCode (r : RuleState) : Byte :=
  match r with
  | .empty => 0
  | .enabled => 1
  | .disabled => 2
  | .spent => 3
  | .quarantined => 4

/-- A piece seat: 0 to 5, or 7. -/
def pieceSeatCode (s : PieceSeat) : Byte :=
  match s with
  | .player n => byteOf n.val
  | .neutral => 7

/-- A found-by path. -/
def foundByCode (f : FoundBy) : Byte :=
  match f with
  | .scan => 0
  | .scrub => 1
  | .read => 2

/-- A status code (R182). -/
def statusCode (st : Status) : Byte :=
  match st with
  | .ok => 1
  | .busy => 2
  | .invalid => 3
  | .full => 4
  | .unknown => 5

/-- A quest or 255 for none. -/
def questOrNone (q : Option (Fin 16)) : Byte :=
  match q with
  | some k => byteOf k.val
  | none => 255

/-! ### Arm frames (R179, R180) -/

/-- A whole arm frame: head, address, body and check byte (R179). -/
def armFrame (head address : Byte) (body : List Byte) : List Byte :=
  let bytes := head :: address :: body
  bytes ++ [armCheck bytes]

/-- A POLL: kind 0x1, greeting mark in bit 3, ack in bit 0 (R180). -/
def pollFrame (position : Fin 32) (greeting ack : Bool) : List Byte :=
  armFrame (0x10 ||| (if greeting then 0x08 else 0) ||| (if ack then 0x01 else 0)) (byteOf position.val) []

/-- An ASSIGN: kind 0x2, the position and its zone (R180). -/
def assignFrame (position : Fin 32) (zone : Fin 16) : List Byte :=
  armFrame 0x20 (byteOf position.val) [byteOf zone.val]

/-- An effect address: the position, 32 plus the zone, or 63 (R179). -/
def effectAddrCode (addr : EffectAddr) : Byte :=
  match addr with
  | .tile p => byteOf p.val
  | .zone z => byteOf (32 + z.val)
  | .all => 63

/-- An effect frame built from its entry (R180). -/
def effectFrame (e : EffectEntry) : List Byte :=
  match e.effect with
  | .light p => armFrame 0x30 (effectAddrCode e.addr) [p]
  | .sound c => armFrame 0x40 (effectAddrCode e.addr) [c]
  | .dark => armFrame 0x50 (effectAddrCode e.addr) []

/-! ### Uplink frames (R164, R181, R182) -/

/-- The four values that are escaped in a frame's content (R164). -/
def needsEscape (b : Byte) : Bool := b == 0xC5 || b == 0xF0 || b == 0xF1 || b == 0xF2

/-- The line bytes of one content byte (R164). -/
def escapeByte (b : Byte) : List Byte := if needsEscape b then [0xF0, b ^^^ 0x40] else [b]

/-- The sum of bytes as numbers (R167). -/
def byteSum (bytes : List Byte) : Nat := (bytes.map BitVec.toNat).sum

/-- The check byte that makes the whole content's sum a multiple of 256 (R181). -/
def uplinkCheck (bytes : List Byte) : Byte := byteOf (256 - byteSum bytes % 256)

/-- The content of a frame: length, kind, body and check byte (R164, R181). -/
def frameContent (kind : Byte) (body : List Byte) : List Byte :=
  let bytes := byteOf (body.length + 1) :: kind :: body
  bytes ++ [uplinkCheck bytes]

/-- A frame on the line: the start byte and the escaped content (R181). -/
def frameLine (kind : Byte) (body : List Byte) : List Byte := 0xC5 :: (frameContent kind body).flatMap escapeByte

/-- The kind byte of a reply: the status in bits 5 to 7, the request kind in bits 0 to 4, which are 0 for UNKNOWN
(R182). -/
def replyKindByte (r : Reply) : Byte :=
  match r.status with
  | .unknown => 0xA0
  | st => (statusCode st <<< 5) ||| r.kind

/-- The line bytes of a reply (R182). -/
def replyLine (r : Reply) : List Byte := frameLine (replyKindByte r) r.body

/-- The alert kind code with its subject and content (chapter 11 "Notice bodies"). -/
def alertContent (al : Alert) : Byte × List Byte :=
  match al with
  | .started .powerOn => (1, [0])
  | .started .resetLine => (1, [1])
  | .tileLost i p => (2, [armCode i, byteOf p.val])
  | .tileBack i p => (3, [armCode i, byteOf p.val])
  | .tileMismatch i p => (4, [armCode i, byteOf p.val])
  | .armFault i => (5, [armCode i])
  | .ruleLost r => (6, [byteOf r.val])
  | .ruleFault r n .questUndefined => (7, [byteOf r.val, byteOf n, 1])
  | .ruleFault r n .prereqUnmet => (7, [byteOf r.val, byteOf n, 2])
  | .ruleFault r n .notStartable => (7, [byteOf r.val, byteOf n, 3])
  | .uplinkGarbled => (8, [])
  | .wake => (9, [])

/-- The line bytes of an ALERT notice: kind, repeat count, subject and content. -/
def alertLine (e : AlertEntry) : List Byte :=
  frameLine 0xE0 ((alertContent e.alert).1 :: byteOf e.count :: (alertContent e.alert).2)

/-- The body of a QUEST notice. -/
def questNoticeBody (n : QuestNotice) : List Byte :=
  match n with
  | .questStarted q => [1, byteOf q.val]
  | .stage q st => [2, byteOf q.val, byteOf st.val]
  | .complete q => [3, byteOf q.val]
  | .failed q .failedByRule => [4, byteOf q.val, 1]
  | .failed q .timedOut => [4, byteOf q.val, 2]
  | .score seat sc => [5, byteOf seat.val] ++ numberBytes sc.value ++ [yesNoCode sc.saturated]
  | .turn seat => [6, byteOf seat.val]
  | .signal home code => [7, questOrNone home, code]

/-- The line bytes of a QUEST notice. -/
def questLine (n : QuestNotice) : List Byte := frameLine 0xE1 (questNoticeBody n)

/-- The event kind code and the piece bytes of a tile event. -/
def tileEventCode (e : TileEvent) : Byte × List Byte :=
  match e with
  | .press => (1, [])
  | .release => (2, [])
  | .place p => (3, [byteOf p.id.val, pieceSeatCode p.seat])
  | .lift p => (4, [byteOf p.id.val, pieceSeatCode p.seat])

/-- The body of an ECHO (R120). -/
def echoBody (e : Echo) : List Byte :=
  match e.event with
  | .tile r =>
    [0, byteOf e.fired, armCode r.arm, byteOf r.position.val, (tileEventCode r.event).1, byteOf r.zone.val]
      ++ (tileEventCode r.event).2
  | .timer q => [1, byteOf e.fired, byteOf q.val]
  | .injected c => [2, byteOf e.fired, c]

/-- The line bytes of an EVENT notice. -/
def eventLine (e : Echo) : List Byte := frameLine 0xE2 (echoBody e)

/-! ### Reply contents (chapter 11 "Request and reply bodies") -/

/-- IDENTIFY: the fixed values of R176, 15 bytes. -/
def identifyContent : List Byte :=
  halfBytes Config.partCode ++ [Config.revision, 2, 32] ++ numberBytes 256
    ++ [16, byteOf Config.intakeCapacity, byteOf Config.effectCapacity, byteOf Config.alertCapacity,
        byteOf Config.questCapacity, byteOf Config.eventCapacity]
    ++ numberBytes Config.bufferCapacity

/-- ARM-STATUS of an arm (R44, R59). -/
def armStatusContent (i : ArmId) (x : Arm) : List Byte :=
  [armCode i, armPhaseCode x.phase, byteOf x.counter.val, byteOf x.framing, byteOf x.check, byteOf x.shape,
   byteOf x.stray, yesNoCode x.doze, byteOf x.fifo.length, byteOf x.effects.length]

/-- TILE-READ of a record (R18). -/
def tileReadContent (index : Fin 64) (r : TileRec) (p : PresenceRec) : List Byte :=
  [byteOf index.val, yesNoCode r.excluded, tileKindCode r.kind, byteOf r.zone.val, yesNoCode r.echo,
   presenceCode p.state, byteOf p.misses]

/-- DIAG-CAPTURE's capture record: full, error kind, rule index, position, found-by (R147). -/
def captureContent (c : Option Capture) : List Byte :=
  match c with
  | none => [0, 255, 255, 255, 255]
  | some ⟨.corrected p, i, f⟩ => [1, 0, byteOf i.val, byteOf p.val, foundByCode f]
  | some ⟨.uncorrectable, i, f⟩ => [1, 1, byteOf i.val, 255, foundByCode f]

/-- DIAG-CAPTURE (R147). -/
def diagContent (m : RuleMemory) : List Byte :=
  captureContent m.capture ++ numberBytes m.corrected ++ [byteOf m.uncorrectable]

/-- The 30 bytes of an entry's stored bits (R184). -/
def storedBytes (e : BitVec 233) : List Byte :=
  unpackRecord (entryData e) ++ [e.extractLsb' 224 8, (e.extractLsb' 232 1).setWidth 8]

/-- SCORE-READ: seat count, turn seat, marks, six scores (R95). -/
def scoreContent (g : Engine) : List Byte :=
  let marks := (List.finRange 6).foldl (fun (acc : Byte) i => if (g.scores[i]).saturated then acc ||| (1 <<< i.val) else acc) 0
  [byteOf g.seatCount, byteOf g.turn.val, marks] ++ (List.finRange 6).flatMap fun i => numberBytes (g.scores[i]).value

/-! ### QUEST-READ (R64, R185) -/

/-- The pairing of state and end reason in bits 5 to 7 of byte 2 (R185). -/
def stateReasonCode (st : QuestState) (reason : EndReason) : Nat :=
  match st with
  | .idle => 0
  | .loaded => 1
  | .active => 2
  | .complete => 3
  | .failed =>
    match reason with
    | .timedOut => 5
    | .aborted => 6
    | _ => 4

/-- A bit of weight 2 ^ n. -/
def bitAt (n : Nat) (b : Bool) : Nat := if b then 2 ^ n else 0

/-- The counter's clamp is present. -/
def clampBit (d : QuestDef) (c : Fin 4) : Bool := (d.counters[c]).clamp.isSome

/-- A counter definition in the read encoding: initial value, lo, hi, the limits 0 when the clamp is absent. -/
def counterDefBytes (c : CounterDef) : List Byte :=
  halfBytes c.initial ++
    match c.clamp with
    | some k => halfBytes k.lo ++ halfBytes k.hi
    | none => [0, 0, 0, 0]

/-- The definition part of the QUEST-READ encoding's byte 1: prerequisite and owner. -/
def questByte1 (d : QuestDef) : Nat :=
  (match d.prerequisite with | some k => k.val + 16 | none => 0)
    + (match d.owner with | some o => 32 * o.val | none => 32 * 7)

/-- The flags N, Z, V, C, K in bits 0 to 4. -/
def flagBits (f : Flags) : Nat := bitAt 0 f.n + bitAt 1 f.z + bitAt 2 f.v + bitAt 3 f.c + bitAt 4 f.k

/-- The 40-byte QUEST-READ content (R185). -/
def questReadContent (q : Quest) (t : Timer) (expiryPending : Bool) : List Byte :=
  let d := q.definition
  [byteOf (d.finalStage.val + bitAt 4 (d.onTimeout == .event) + bitAt 5 d.startTimer.isSome
      + bitAt 6 t.running + bitAt 7 expiryPending),
   byteOf (questByte1 d),
   byteOf (flagBits q.flags + 32 * stateReasonCode q.state q.endReason),
   byteOf (q.stage.val + bitAt 4 (clampBit d 0) + bitAt 5 (clampBit d 1) + bitAt 6 (clampBit d 2)
      + bitAt 7 (clampBit d 3))]
    ++ halfBytes (d.startTimer.getD 0)
    ++ counterDefBytes d.counters[0] ++ counterDefBytes d.counters[1]
    ++ counterDefBytes d.counters[2] ++ counterDefBytes d.counters[3]
    ++ halfBytes q.counters[0] ++ halfBytes q.counters[1] ++ halfBytes q.counters[2] ++ halfBytes q.counters[3]
    ++ halfBytes t.remaining

end Sys2Proof.Machine
end

