-- ==== Sys2Proof/Machine/ArmOps.lean ====
section
/-! DEFINITION. The arm controllers: rotation, frame choice, answers and misses, arm faults, and what a TILE-WRITE
does at the owning arm (spec/01_tile_map_and_tile_presence.md, spec/02_arm_links.md). -/

namespace Sys2Proof.Machine

open Sys2Proof

/-! ### Rotation (R27, R28, R34, R38, R42) -/

/-- The rotation or enumeration pass visits a position in this state (R12, R27): in ENUMERATING only UNKNOWN positions,
in RUNNING also PRESENT ones, and ABSENT and MISMATCH ones when the rotation counter is 0. -/
def Arm.visits (x : Arm) (st : Presence) : Bool :=
  match st with
  | .excluded => false
  | .unknown => true
  | .present => x.phase == .running
  | .absent => x.phase == .running && x.counter == 0
  | .mismatch => x.phase == .running && x.counter == 0

/-- The first position from the rotation position on that is not passed over (R27). -/
def Arm.nextStop (x : Arm) : Option (Fin 32) :=
  (List.finRange 32).find? fun p => x.position.val ≤ p.val && x.visits (x.presence[p]).state

/-- The pass reaches its next position and a visit begins there with no events taken, or it passes over position 31
(R27, R28). -/
def Arm.reach (x : Arm) : Arm :=
  match x.nextStop with
  | some p => { (x.withPresence p { x.presence[p] with taken := 0 }) with position := p, pass := .visiting false }
  | none => { x with pass := .ended }

/-- A visit ends: the pass goes on to the next position, or is over after position 31 (R28). -/
def Arm.leave (x : Arm) : Arm :=
  if h : x.position.val + 1 < 32 then { x with position := ⟨x.position.val + 1, h⟩, pass := .reaching }
  else { x with pass := .ended }

/-- A rotation starts: position 0, an empty rotation record but for PRESENT at start, the start time marked
(R27, R38, R42). -/
def Arm.startRotation (x : Arm) : Arm :=
  { x with
    position := 0
    pass := .reaching
    rotationPolled := false
    record := ⟨(List.finRange 32).any fun p => (x.presence[p]).state == .present, false, false⟩
    startMark := some ⟨false, false⟩ }

/-- The next rotation may start: 250 ms after the last start with the doze flag on (R42), else 10 ms after it when the
rotation sent no poll (R27), else at once. -/
def Arm.mayStart (x : Arm) : Bool :=
  match x.startMark with
  | none => true
  | some m => if x.doze then m.dozeOver else x.rotationPolled || m.emptyOver

/-- The fault test (R38). -/
def Arm.faultTest (x : Arm) : Bool := x.record.presentAtStart && x.record.completed && !x.record.answered

/-- An arm controller forced out of polling: line idle, queue of effects empty, presence reset, rotation cleared; what
ARM-STOP and the entry into FAULTED have in common (R20, R35, R39). -/
def Arm.halted (x : Arm) (phase : ArmPhase) (presence : Vector PresenceRec 32) : Arm :=
  { x with
    phase := phase
    position := 0
    pass := .reaching
    rotationPolled := false
    line := .free
    alternation := .poll
    record := ⟨false, false, false⟩
    startMark := none
    presence := presence
    effects := [] }

/-- The arm becomes FAULTED (R39). -/
def State.faultArm (s : State) (i : ArmId) : State :=
  (s.withArm i ((s.arm i).halted .faulted (s.resetPresence i))).raise (.armFault i)

/-- One move of the pass: to the next visit, past position 31, to the end of the pass, or to the next rotation's start. -/
def State.movePass (s : State) (i : ArmId) : State :=
  let x := s.arm i
  match x.pass with
  | .visiting _ => s
  | .reaching => s.withArm i x.reach
  | .between => if x.mayStart then s.withArm i x.startRotation else s
  | .ended =>
    match x.phase with
    | .enumerating => s.withArm i ({ x with phase := .running, counter := 1 } : Arm).startRotation
    | .running =>
      if x.faultTest then s.faultArm i else s.withArm i { x with counter := x.counter + 1, pass := .between }
    | .off => s
    | .faulted => s

/-- Nothing is in transmission on the pair and no poll is awaiting an answer (R21). -/
def Line.idle (l : Line) : Bool :=
  match l with
  | .free => true
  | .lapsed => true
  | .poll _ _ => false
  | .assign _ _ _ => false
  | .effect _ _ => false

/-- The lowest position with its zone-assignment pending flag set (R10, R25). -/
def Arm.assignDue (x : Arm) : Option (Fin 32) := (List.finRange 32).find? fun p => (x.presence[p]).assign

/-- The next frame is no poll, whether or not a poll is ready: an ASSIGN is owed, or an effect entry waits and the
alternation memory says POLL (R25). -/
def Arm.frameBeforePoll (x : Arm) : Bool := x.assignDue.isSome || (!x.effects.isEmpty && x.alternation == .poll)

/-- The pass stands at a position that it passes over (R27). -/
def Arm.passesOver (x : Arm) : Bool := x.pass == .reaching && !x.visits (x.presence[x.position]).state

/-- Up to `n` moves of the pass, while the arm drives its pair and the pair is idle; with `hold`, no position is passed
over (R27; log 7). -/
def State.movePasses (s : State) (i : ArmId) (hold : Bool) : Nat → State
  | 0 => s
  | n + 1 =>
    if (s.arm i).active && (s.arm i).line.idle && !(hold && (s.arm i).passesOver) then (s.movePass i).movePasses i hold n
    else s

/-- The rotation brought to where it stands after a frame that was no poll: at a visit, or between rotations (R27, R28;
log 7). Six moves reach that: a pass that ends can start one rotation more, and one without a poll waits. -/
def State.settle (s : State) (i : ArmId) : State := s.movePasses i false 6

/-- The rotation brought to where it stands at the end of a poll, of a wait, or at a frame opportunity: positions are
passed over only when no ASSIGN or effect frame goes first, so that a rotation whose last positions are passed over ends
behind that frame (R27 and the worked sequence "the arm B cable pulled"; log 7). -/
def State.bring (s : State) (i : ArmId) : State := s.movePasses i (s.arm i).frameBeforePoll 6

/-! ### The choice of the next frame (R25, R26) -/

/-- A poll is ready (R26); the wait of R42 is over once a visit is under way. -/
def Arm.pollReady (x : Arm) (highMark : Nat) : Bool :=
  x.active && (match x.pass with | .visiting _ => true | _ => false) && x.fifo.length < highMark

/-- The kinds of downstream frame (R25). -/
inductive FrameChoice where
  | assign (position : Fin 32)
  | effect (entry : EffectEntry)
  | poll
deriving DecidableEq, Repr

/-- The frame the controller sends at this frame opportunity (R25). -/
def Arm.nextFrame (x : Arm) (highMark : Nat) : Option FrameChoice :=
  if x.active && x.line.idle then
    match x.assignDue with
    | some p => some (.assign p)
    | none =>
      match x.effects, x.pollReady highMark with
      | e :: _, true => if x.alternation = .poll then some (.effect e) else some .poll
      | e :: _, false => some (.effect e)
      | [], true => some .poll
      | [], false => none
  else none

/-! ### Answers and misses (R11 to R16, R29 to R32, R38) -/

/-- The rotation record after a poll that ended with an outcome (R38). -/
def RotationRecord.afterPoll (r : RotationRecord) (fromPresent valid : Bool) : RotationRecord :=
  { r with completed := r.completed || fromPresent, answered := r.answered || (fromPresent && valid) }

/-- A miss at a position (R12, R13, R14): the presence record after it. -/
def PresenceRec.missed (r : PresenceRec) : PresenceRec :=
  let n := saturate Config.missLimit r.misses
  match r.state with
  | .unknown => { r with misses := n, state := if n = Config.missLimit then .absent else .unknown }
  | .present =>
    if n = Config.missLimit then { r with misses := n, state := .absent, assign := false, taken := 0 }
    else { r with misses := n }
  | .absent => { r with misses := n }
  | .mismatch => { r with misses := n }
  | .excluded => r

/-- The visit goes on after a miss only at a position that is still UNKNOWN (R12, R28, R32). -/
def PresenceRec.missContinues (r : PresenceRec) : Bool := r.missed.state == .unknown

/-- The alert of a miss: TILE-LOST when a PRESENT position becomes ABSENT (R14). -/
def PresenceRec.missLost (r : PresenceRec) : Bool := r.state == .present && r.missed.state == .absent

/-- The presence record after a HELLO of a kind that equals the map kind or differs from it; either sets the last
accepted toggle to 1 (R9, R11, R29). -/
def PresenceRec.greeted (r : PresenceRec) (same : Bool) : PresenceRec :=
  if same then { r with state := .present, misses := 0, taken := 0, toggle := true, assign := true }
  else { r with state := .mismatch, misses := 0, taken := 0, toggle := true, assign := false }

/-- The alert of a HELLO, if any (R11, R17). -/
def helloAlert (i : ArmId) (p : Fin 32) (before : Presence) (same : Bool) : Option Alert :=
  match before with
  | .absent => if same then some (.tileBack i p) else some (.tileMismatch i p)
  | .mismatch => if same then some (.tileBack i p) else none
  | .unknown => if same then none else some (.tileMismatch i p)
  | .present => if same then none else some (.tileMismatch i p)
  | .excluded => none

/-- Raise an alert if there is one. -/
def State.raiseOpt (s : State) (al : Option Alert) : State :=
  match al with
  | some x => s.raise x
  | none => s

/-- The tile kind that can produce an event (R29). -/
def TileEvent.source (e : TileEvent) : TileKind :=
  match e with
  | .press => .pad
  | .release => .pad
  | .place _ => .reader
  | .lift _ => .reader

/-- DOZE off at one arm: a wait under R42 ends at once (R40, R42, R43; log 10). It stays ended when DOZE on comes again
before the arm's next frame opportunity: the next rotation starts there (DESIGN CHOICE, log 36). -/
def Arm.dozeOff (x : Arm) : Arm :=
  if x.doze then
    { x with
      doze := false
      startMark := match x.pass with
        | .between => x.startMark.map fun _ => ⟨true, true⟩
        | _ => x.startMark }
  else x

/-- An accepted event while the doze flag is on ends doze on both arms and raises WAKE (R43). -/
def State.wake (s : State) (i : ArmId) : State :=
  if (s.arm i).doze then (((s.withArm .a s.armA.dozeOff).withArm .b s.armB.dozeOff).raise .wake) else s

/-- A new event of a PRESENT tile: appended with the map's zone, or counted SHAPE when the map kind cannot produce it;
its toggle becomes the last accepted one (R29). -/
def State.acceptEvent (s : State) (i : ArmId) (p : Fin 32) (e : TileEvent) (toggle : Bool) : State :=
  let x := s.arm i
  let x1 := x.withPresence p { x.presence[p] with toggle := toggle }
  if e.source = (s.mapRec i p).kind then
    (s.withArm i { x1 with fifo := x1.fifo ++ [⟨i, p, e, (s.mapRec i p).zone⟩] }).wake i
  else s.withArm i (x1.countError .shape)

/-- A valid IDLE or event answer from a PRESENT tile, and whether the visit goes on (R28 to R31). -/
def State.answerPresent (s : State) (i : ArmId) (p : Fin 32) (ans : Answer) : State × Bool :=
  let x := s.arm i
  let r := x.presence[p]
  match ans with
  | .event e toggle more =>
    let taken := if r.taken < Config.visitLimit then r.taken + 1 else r.taken
    let s1 := s.withArm i (x.withPresence p { r with misses := 0, taken := taken })
    (if toggle = r.toggle then s1 else s1.acceptEvent i p e toggle, more && taken < Config.visitLimit)
  | _ => (s.withArm i (x.withPresence p { r with misses := 0 }), false)

/-- A valid answer by the position's presence state, and whether the visit goes on (R11, R15, R16, R29 to R31). -/
def State.answerValid (s : State) (i : ArmId) (p : Fin 32) (ans : Answer) : State × Bool :=
  let x := s.arm i
  let r := x.presence[p]
  match ans with
  | .hello k =>
    let same := k == (s.mapRec i p).kind
    if r.state = .excluded then (s, false)
    else ((s.withArm i (x.withPresence p (r.greeted same))).raiseOpt (helloAlert i p r.state same), false)
  | _ =>
    match r.state with
    | .present => s.answerPresent i p ans
    | .absent =>
      ((s.withArm i (x.withPresence p { r with state := .present, misses := 0 })).raise (.tileBack i p)).answerPresent i p ans
    | .mismatch => (s.withArm i (x.withPresence p { r with misses := 0 }), false)
    | .unknown => (s, false)
    | .excluded => (s, false)

/-- A miss at a position, and whether the visit goes on (R13, R14, R32). -/
def State.answerMissed (s : State) (i : ArmId) (p : Fin 32) : State × Bool :=
  let x := s.arm i
  let r := x.presence[p]
  ((s.withArm i (x.withPresence p r.missed)).raiseOpt (if r.missLost then some (.tileLost i p) else none),
   r.missContinues)

/-- The poll ends: the pair is free and the rotation record takes its outcome (R22, R38). -/
def State.endPoll (s : State) (i : ArmId) (poll : Poll) (valid : Bool) : State :=
  let x := s.arm i
  s.withArm i { x with line := .free, record := x.record.afterPoll poll.fromPresent valid }

/-- After a poll's outcome the visit goes on or ends, and the rotation with it (R27, R28). -/
def State.afterOutcome (i : ArmId) (r : State × Bool) : State :=
  (if r.2 then r.1 else r.1.withArm i (r.1.arm i).leave).bring i

/-- The end of a poll that received an answer (R23). -/
def State.pollAnswered (s : State) (i : ArmId) (poll : Poll) (bytes : List LineByte) : State :=
  match judgeAnswer poll bytes with
  | .ok ans => State.afterOutcome i ((s.endPoll i poll true).answerValid i poll.position ans)
  | .error e =>
    let s1 := s.endPoll i poll false
    State.afterOutcome i ((s1.withArm i ((s1.arm i).countError e)).answerMissed i poll.position)

/-! ### Map changes at a live position (R4 to R7) -/

/-- The presence record after a TILE-WRITE that replaces `old` by `new` (R4, R5, R6). -/
def PresenceRec.rewritten (r : PresenceRec) (old new : TileRec) : PresenceRec :=
  if new.excluded && !old.excluded then PresenceRec.fresh .excluded
  else if old.excluded && !new.excluded then PresenceRec.fresh .unknown
  else if !new.excluded && new.kind != old.kind then PresenceRec.fresh .unknown
  else if r.state == .present && new.kind == old.kind && new.zone != old.zone then { r with assign := true }
  else r

/-- The excluded or the kind field changes (R7). -/
def TileRec.retyped (old new : TileRec) : Bool := old.excluded != new.excluded || old.kind != new.kind

/-- The line after a TILE-WRITE at position p: a poll of a retyped position has ended with its window still open (R7),
an ASSIGN whose zone changed leaves a further one owed (R10). -/
def Line.rewritten (l : Line) (p : Fin 32) (retyped assignAgain : Bool) : Line :=
  match l with
  | .poll pl frame => if pl.position = p && retyped then .lapsed else .poll pl frame
  | .assign q frame again => .assign q frame (again || (q == p && assignAgain))
  | .free => .free
  | .lapsed => .lapsed
  | .effect frame held => .effect frame held

/-- The owning arm carries out a TILE-WRITE at position p (R4 to R7). A change of state ends a visit that has sent a
poll, and makes the pass decide again on a position it has not polled yet (R28; log 9). -/
def Arm.rewrite (x : Arm) (p : Fin 32) (old new : TileRec) : Arm :=
  let r := x.presence[p]
  let r' := r.rewritten old new
  let x1 := { (x.withPresence p r') with
    line := x.line.rewritten p (old.retyped new) (r.state == .present && r'.state == .present && new.zone != old.zone) }
  if x.position = p && r.state != r'.state then
    match x.pass with
    | .visiting true => x1.leave
    | .visiting false => { x1 with pass := .reaching }
    | .reaching => x1
    | .between => x1
    | .ended => x1
  else x1

end Sys2Proof.Machine
end

