-- ==== Sys2Proof/Machine/Arms.lean ====
section
/-! DEFINITION. The commands of the arm pairs (spec/02_arm_links.md). A frame command is the frame opportunity it names:
the rotation is first brought to where it stands, and the frame is sent when R25 chooses it (log 2, log 7). -/

namespace Sys2Proof.Machine

open Sys2Proof

/-- An ordinary or greeting poll starts at the position of the visit (R12, R22, R25, R180). A window that a TILE-WRITE left
open (R7) is forgotten: an answer that comes from now on is an answer to this poll (DESIGN CHOICE, log 33). -/
def Arm.sendPoll (x : Arm) : Arm :=
  let r := x.presence[x.position]
  let greeting := r.state == .unknown
  { x with
    line := .poll ⟨x.position, greeting, r.state == .present⟩ (pollFrame x.position greeting r.toggle)
    alternation := .poll
    pass := .visiting true
    rotationPolled := true }

/-- The effect frame of the head entry starts; the entry stays at the head (R25, R56). -/
def Arm.sendEffect (x : Arm) (e : EffectEntry) : Arm :=
  { x with line := .effect (effectFrame e) true, alternation := .effect }

/-- An ASSIGN starts, with the zone read now (R10, R25). -/
def Arm.sendAssign (x : Arm) (p : Fin 32) (zone : Fin 16) : Arm :=
  { x with line := .assign p (assignFrame p zone) false }

/-- POLL_SEND (R25, R26). -/
def execPollSend (arm : ArmId) (s : State) : Host.Outcome State Fault Refusal :=
  .next (if s.alive then
      let s1 := s.bring arm
      match (s1.arm arm).nextFrame s1.engine.highMark with
      | some .poll => s1.withArm arm (s1.arm arm).sendPoll
      | _ => s1
    else s)

/-- EFFECT_FRAME_SEND (R25, R56). -/
def execEffectFrameSend (arm : ArmId) (s : State) : Host.Outcome State Fault Refusal :=
  .next (if s.alive then
      let s1 := s.bring arm
      match (s1.arm arm).nextFrame s1.engine.highMark with
      | some (.effect e) => s1.withArm arm ((s1.arm arm).sendEffect e)
      | _ => s1
    else s)

/-- ASSIGN_SEND (R10, R25). -/
def execAssignSend (arm : ArmId) (s : State) : Host.Outcome State Fault Refusal :=
  .next (if s.alive then
      let s1 := s.bring arm
      match (s1.arm arm).nextFrame s1.engine.highMark with
      | some (.assign p) => s1.withArm arm ((s1.arm arm).sendAssign p (s1.mapRec arm p).zone)
      | _ => s1
    else s)

/-- EFFECT_FRAME_END: the entry leaves the queue if it still stands there (R56, R57), and a rotation that waited for
the frame ends (R27). -/
def execEffectFrameEnd (arm : ArmId) (s : State) : Host.Outcome State Fault Refusal :=
  .next (match s.alive, (s.arm arm).line with
    | true, .effect _ held =>
      let x := s.arm arm
      (s.withArm arm { x with line := .free, effects := if held then x.effects.tail else x.effects }).settle arm
    | _, _ => s)

/-- The pending flag at the end of an ASSIGN: cleared, unless the zone changed meanwhile (R10, R25). -/
def Arm.assignSent (x : Arm) (p : Fin 32) (again : Bool) : Arm :=
  if again then { x with line := .free }
  else { x.withPresence p { x.presence[p] with assign := false } with line := .free }

/-- ASSIGN_END (R10), and a rotation that waited for the frame ends (R27). -/
def execAssignEnd (arm : ArmId) (s : State) : Host.Outcome State Fault Refusal :=
  .next (match s.alive, (s.arm arm).line with
    | true, .assign p _ again => (s.withArm arm ((s.arm arm).assignSent p again)).settle arm
    | _, _ => s)

/-- The end of a frame that the arm received, or of a window left open, with nothing judged: the pair is free, and the
rotation is brought to where it stands before the next frame is chosen (R7, R24, R27). -/
def State.received (s : State) (i : ArmId) (x : Arm) : State := (s.withArm i { x with line := .free }).bring i

/-- POLL_ANSWER: judged and handled (R23); an answer in the window of a poll that R7 ended is discarded (R7), as long as no
later frame has started on the pair (log 33). -/
def execPollAnswer (arm : ArmId) (answer : List LineByte) (s : State) : Host.Outcome State Fault Refusal :=
  .next (match s.alive, (s.arm arm).line with
    | true, .poll poll _ => s.pollAnswered arm poll answer
    | true, .lapsed => s.received arm (s.arm arm)
    | _, _ => s)

/-- REPLY_WINDOW_CLOSE: the poll is a miss with no error count (R22); after R7 nothing is counted (R7). -/
def execReplyWindowClose (arm : ArmId) (s : State) : Host.Outcome State Fault Refusal :=
  .next (match s.alive, (s.arm arm).line with
    | true, .poll poll _ => State.afterOutcome arm ((s.endPoll arm poll false).answerMissed arm poll.position)
    | true, .lapsed => s.received arm (s.arm arm)
    | _, _ => s)

/-- STRAY_FRAME: counted STRAY and discarded whatever its content (R24); bytes that overlap the controller's own
transmission are lost uncounted (R21; log 20). -/
def execStrayFrame (arm : ArmId) (_frame : List LineByte) (s : State) : Host.Outcome State Fault Refusal :=
  .next (if s.alive && (s.arm arm).active && (s.arm arm).line.idle then
      s.received arm ((s.arm arm).countError .stray)
    else s)

/-- A wait counted from the rotation's start is over, and a rotation that waited for it starts (R27, R42). A rotation that
is not over yet only takes note: it ends at the end of a frame, not of a wait. -/
def State.waitOver (s : State) (i : ArmId) (f : StartMark → StartMark) : State :=
  if s.alive && (s.arm i).phase == .running then
    let s1 := s.withArm i { s.arm i with startMark := (s.arm i).startMark.map f }
    if (s.arm i).pass == .between then s1.bring i else s1
  else s

/-- DOZE_WAIT_END: 250 ms since the rotation's start (R42). -/
def execDozeWaitEnd (arm : ArmId) (s : State) : Host.Outcome State Fault Refusal :=
  .next (s.waitOver arm fun m => { m with dozeOver := true })

/-- EMPTY_ROTATION_WAIT_END: 10 ms since the rotation's start (R27). -/
def execEmptyRotationWaitEnd (arm : ArmId) (s : State) : Host.Outcome State Fault Refusal :=
  .next (s.waitOver arm fun m => { m with emptyOver := true })

end Sys2Proof.Machine
end

