-- ==== Sys2Proof/Machine/QuestOps.lean ====
section
/-! DEFINITION. What happens to a quest record, its timer and its expiry entry (R61 to R72, R76 to R78), shared by the
requests, the rule actions and the timer unit. -/

namespace Sys2Proof.Machine

open Sys2Proof

/-- The record of a quest. -/
def State.quest (s : State) (q : Fin 16) : Quest := s.engine.quests[q]

/-- The state with one quest record replaced. -/
def State.withQuest (s : State) (q : Fin 16) (x : Quest) : State :=
  s.withEngine { s.engine with quests := s.engine.quests.set q x }

/-- The state with one quest timer replaced. -/
def State.withTimer (s : State) (q : Fin 16) (t : Timer) : State := s.withTimers (s.timers.set q t)

/-- Expiry pending: the expiry list holds an entry for the quest (R61). -/
def State.expiryPending (s : State) (q : Fin 16) : Bool := s.engine.expiry.contains q

/-- The quest's entry leaves the expiry list, and the entries behind it close up (R78). -/
def State.dropExpiry (s : State) (q : Fin 16) : State :=
  s.withEngine { s.engine with expiry := s.engine.expiry.filter (fun k => k != q) }

/-- The timer runs from a new count, and a listed expiry is removed (R76). -/
def State.startTimer (s : State) (q : Fin 16) (ticks : Half) : State := (s.withTimer q ⟨true, ticks⟩).dropExpiry q

/-- The timer stops with its remaining count kept, and a listed expiry is removed (R70, R77). -/
def State.stopTimer (s : State) (q : Fin 16) : State := (s.withTimer q ⟨false, s.timers[q].remaining⟩).dropExpiry q

/-- The counters' initial values (R60). -/
def QuestDef.initials (d : QuestDef) : Vector Half 4 := d.counters.map (·.initial)

/-- A LOADED quest with its runtime part cleared (R62, R72). -/
def Quest.loaded (d : QuestDef) : Quest :=
  { definition := d, state := .loaded, stage := 0, counters := d.initials, flags := Flags.zero, endReason := .none }

/-- The prerequisite is none or COMPLETE (R63 step 4, R68). -/
def State.prerequisiteMet (s : State) (d : QuestDef) : Bool :=
  match d.prerequisite with
  | none => true
  | some k => (s.quest k).state == .complete

/-- The change of a LOADED quest to ACTIVE (R63). -/
def State.activate (s : State) (q : Fin 16) : State :=
  let d := (s.quest q).definition
  let s1 := s.withQuest q { definition := d, state := .active, stage := 0, counters := d.initials,
                            flags := Flags.zero, endReason := .none }
  match d.startTimer with
  | some t => s1.startTimer q t
  | none => s1

/-- The change of an ACTIVE quest to COMPLETE or FAILED with the common effects of ending (R70). -/
def State.endQuest (s : State) (q : Fin 16) (st : QuestState) (reason : EndReason) : State :=
  (s.withQuest q { s.quest q with state := st, endReason := reason }).stopTimer q

/-- The state of the rule at an index (R107). -/
def State.rule (s : State) (i : Fin 256) : RuleState := s.engine.rules[i]

/-- The state with one rule state replaced. -/
def State.withRule (s : State) (i : Fin 256) (r : RuleState) : State := s.withEngine (s.engine.withRule i r)

/-- An effect entry reaches an arm's queue, or is dropped while the arm is OFF or FAULTED (R51). -/
def State.enqueue (s : State) (i : ArmId) (e : EffectEntry) : State :=
  if (s.arm i).active then s.withArm i { s.arm i with effects := (s.arm i).effects ++ [e] } else s

/-! ### Quest requests -/

/-- QUEST-WRITE (R62). -/
def questWriteItem (body : List Byte) (s : State) : State × Reply :=
  match parseQuestWrite body with
  | none => (s, Reply.invalid 0x10)
  | some (q, d) =>
    if (s.quest q).state = .active then (s, Reply.busy 0x10)
    else ((s.withQuest q (Quest.loaded d)).withTimer q ⟨false, 0⟩, Reply.done 0x10 [])

/-- QUEST-READ (R64). -/
def questReadItem (body : List Byte) (s : State) : State × Reply :=
  match oneNumber 16 body with
  | none => (s, Reply.invalid 0x11)
  | some q => (s, Reply.done 0x11 (questReadContent (s.quest q) s.timers[q] (s.expiryPending q)))

/-- QUEST-START, host form, its outcomes in the order of R63. -/
def questStartItem (body : List Byte) (s : State) : State × Reply :=
  match oneNumber 16 body with
  | none => (s, Reply.invalid 0x12)
  | some q =>
    if (s.quest q).state = .active then (s, Reply.busy 0x12)
    else if (s.quest q).state ≠ .loaded then (s, Reply.invalid 0x12)
    else if s.prerequisiteMet (s.quest q).definition then (s.activate q, Reply.done 0x12 [])
    else (s, Reply.invalid 0x12)

/-- QUEST-ABORT (R71). -/
def questAbortItem (body : List Byte) (s : State) : State × Reply :=
  match oneNumber 16 body with
  | none => (s, Reply.invalid 0x13)
  | some q =>
    if (s.quest q).state = .active then (s.endQuest q .failed .aborted, Reply.done 0x13 [])
    else (s, Reply.invalid 0x13)

/-! ### The tick (R75) -/

/-- The tick's work on one timer: a running timer is lowered by one, and one that reaches 0 stops and joins the expiry
list (R75). -/
def State.tickTimer (s : State) (q : Fin 16) : State :=
  let t := s.timers[q]
  if t.running then
    if t.remaining.toNat ≤ 1 then
      let s1 := s.withTimer q ⟨false, 0⟩
      s1.withEngine { s1.engine with expiry := s1.engine.expiry ++ [q] }
    else s.withTimer q ⟨true, t.remaining - 1⟩
  else s

/-- The tick's work on all timers, in ascending quest index (R75). -/
def State.tickAll (s : State) : List (Fin 16) → State
  | [] => s
  | q :: rest => (s.tickTimer q).tickAll rest

end Sys2Proof.Machine
end

