-- ==== Sys2Proof/Machine/Quests.lean ====
section
/-! DEFINITION. The quest, score and turn requests and the quest timer unit (spec/04_quests_stages_and_timers.md,
spec/05_counter_and_score_arithmetic.md R95, R99). -/

namespace Sys2Proof.Machine

open Sys2Proof

/-- QUEST_WRITE. -/
def execQuestWrite (body : List Byte) (s : State) : Host.Outcome State Fault Refusal :=
  .next (serveItem 0x10 questWriteItem body s)

/-- QUEST_READ. -/
def execQuestRead (body : List Byte) (s : State) : Host.Outcome State Fault Refusal :=
  .next (serveItem 0x11 questReadItem body s)

/-- QUEST_START, host form. -/
def execQuestStart (body : List Byte) (s : State) : Host.Outcome State Fault Refusal :=
  .next (serveItem 0x12 questStartItem body s)

/-- QUEST_ABORT. -/
def execQuestAbort (body : List Byte) (s : State) : Host.Outcome State Fault Refusal :=
  .next (serveItem 0x13 questAbortItem body s)

/-- SCORE-SET (R95): the seat need not be in play. -/
def scoreSetItem (body : List Byte) (s : State) : State × Reply :=
  match parseScoreSet body with
  | none => (s, Reply.invalid 0x14)
  | some (seat, n) =>
    (s.withEngine { s.engine with scores := s.engine.scores.set seat (Score.ofNat n false) }, Reply.done 0x14 [])

/-- SCORE-READ (R95). -/
def scoreReadItem (body : List Byte) (s : State) : State × Reply :=
  (s, if body = [] then Reply.done 0x15 (scoreContent s.engine) else Reply.invalid 0x15)

/-- TURN-SET, host form, which does not clamp (R99). -/
def turnSetItem (body : List Byte) (s : State) : State × Reply :=
  match oneNumber 6 body with
  | none => (s, Reply.invalid 0x16)
  | some n =>
    if n.val < s.engine.seatCount then (s.withEngine { s.engine with turn := n }, Reply.done 0x16 [])
    else (s, Reply.invalid 0x16)

/-- SCORE_SET. -/
def execScoreSet (body : List Byte) (s : State) : Host.Outcome State Fault Refusal :=
  .next (serveItem 0x14 scoreSetItem body s)

/-- SCORE_READ. -/
def execScoreRead (body : List Byte) (s : State) : Host.Outcome State Fault Refusal :=
  .next (serveItem 0x15 scoreReadItem body s)

/-- TURN_SET, host form. -/
def execTurnSet (body : List Byte) (s : State) : Host.Outcome State Fault Refusal :=
  .next (serveItem 0x16 turnSetItem body s)

/-- QUEST_TICK: in RUN every running timer is lowered, in ascending quest index (R75; log 5). -/
def execQuestTick (s : State) : Host.Outcome State Fault Refusal :=
  .next (if s.alive && s.engine.mode == .run then s.tickAll (List.finRange 16) else s)

/-- QUEST_TIMER_EXPIRY: in RUN, the tick's work on one running timer that it brings to 0 (R75; log 5). -/
def execQuestTimerExpiry (quest : Fin 16) (s : State) : Host.Outcome State Fault Refusal :=
  .next (if s.alive && s.engine.mode == .run && s.timers[quest].running && s.timers[quest].remaining.toNat ≤ 1 then
      s.tickTimer quest
    else s)

end Sys2Proof.Machine
end

