-- ==== Sys2Proof/Machine/Direct.lean ====
section
/-! DEFINITION. The requests the handler serves directly (R175): IDENTIFY, ARM-STATUS, TILE-READ, ARM-START, ARM-STOP,
DOZE, DIAG-CAPTURE. -/

namespace Sys2Proof.Machine

open Sys2Proof

/-- IDENTIFY (R176). -/
def identifyItem (body : List Byte) (s : State) : State × Reply :=
  (s, if body = [] then Reply.done 0x01 identifyContent else Reply.invalid 0x01)

/-- ARM-STATUS (R44, R59). -/
def armStatusItem (body : List Byte) (s : State) : State × Reply :=
  match oneArm body with
  | none => (s, Reply.invalid 0x02)
  | some i => (s, Reply.done 0x02 (armStatusContent i (s.arm i)))

/-- TILE-READ (R18). -/
def tileReadItem (body : List Byte) (s : State) : State × Reply :=
  match oneNumber 64 body with
  | none => (s, Reply.invalid 0x03)
  | some k => (s, Reply.done 0x03 (tileReadContent k s.tileMap[k] (s.presence (indexArm k) (indexPosition k))))

/-- An arm moved to ENUMERATING (R20, R33): FIFO, effect queue and doze flag kept. -/
def Arm.started (x : Arm) (presence : Vector PresenceRec 32) : Arm :=
  { x with
    phase := .enumerating
    counter := 0
    position := 0
    pass := .reaching
    rotationPolled := false
    line := .free
    alternation := .poll
    record := ⟨false, false, false⟩
    framing := 0
    check := 0
    shape := 0
    stray := 0
    startMark := none
    presence := presence }

/-- ARM-START (R33). -/
def armStartItem (body : List Byte) (s : State) : State × Reply :=
  match oneArm body with
  | none => (s, Reply.invalid 0x04)
  | some i =>
    if (s.arm i).active then (s, Reply.busy 0x04)
    else (s.withArm i ((s.arm i).started (s.resetPresence i)), Reply.done 0x04 [armCode i, armPhaseCode .enumerating])

/-- ARM-STOP (R35). -/
def armStopItem (body : List Byte) (s : State) : State × Reply :=
  match oneArm body with
  | none => (s, Reply.invalid 0x05)
  | some i =>
    (s.withArm i { (s.arm i).halted .off (s.resetPresence i) with counter := 0, fifo := [] },
     Reply.done 0x05 [armCode i, armPhaseCode .off])

/-- DOZE on or off at both arms (R40). -/
def dozeItem (body : List Byte) (s : State) : State × Reply :=
  match oneOnOff body with
  | none => (s, Reply.invalid 0x06)
  | some true =>
    ((s.withArm .a { s.armA with doze := true }).withArm .b { s.armB with doze := true }, Reply.done 0x06 [])
  | some false => ((s.withArm .a s.armA.dozeOff).withArm .b s.armB.dozeOff, Reply.done 0x06 [])

/-- DIAG-CAPTURE: reported, then emptied and zeroed (R147). -/
def diagCaptureItem (body : List Byte) (s : State) : State × Reply :=
  if body = [] then
    (s.withMemory { s.memory with capture := none, corrected := 0, uncorrectable := 0 },
     Reply.done 0x07 (diagContent s.memory))
  else (s, Reply.invalid 0x07)

/-- The IDENTIFY command. -/
def execIdentify (body : List Byte) (s : State) : Host.Outcome State Fault Refusal := .next (serveDirect identifyItem body s)

/-- The ARM_STATUS command. -/
def execArmStatus (body : List Byte) (s : State) : Host.Outcome State Fault Refusal := .next (serveDirect armStatusItem body s)

/-- The TILE_READ command. -/
def execTileRead (body : List Byte) (s : State) : Host.Outcome State Fault Refusal := .next (serveDirect tileReadItem body s)

/-- The ARM_START command. -/
def execArmStart (body : List Byte) (s : State) : Host.Outcome State Fault Refusal := .next (serveDirect armStartItem body s)

/-- The ARM_STOP command. -/
def execArmStop (body : List Byte) (s : State) : Host.Outcome State Fault Refusal := .next (serveDirect armStopItem body s)

/-- The DOZE command. -/
def execDoze (body : List Byte) (s : State) : Host.Outcome State Fault Refusal := .next (serveDirect dozeItem body s)

/-- The DIAG_CAPTURE command. -/
def execDiagCapture (body : List Byte) (s : State) : Host.Outcome State Fault Refusal :=
  .next (serveDirect diagCaptureItem body s)

end Sys2Proof.Machine
end

