-- ==== Sys2Proof/Machine/UplinkOps.lean ====
section
/-! DEFINITION. The uplink port's shared operations: receive buffer and flow marks (R169, R170), garbled frames (R167),
the byte-by-byte receiver (R165, R166), the transmitter's choice (R162, R172). -/

namespace Sys2Proof.Machine

open Sys2Proof

/-- The number of bytes the receive buffer holds (R169). -/
def Uplink.bufferCount (u : Uplink) : Nat := (u.frames.map List.length).sum + u.part.length

/-- After the buffer count rose: at 384 or more with the mark clear, the mark is set and a HOLD is owed (R170). -/
def Uplink.afterRise (u : Uplink) : Uplink :=
  if Config.bufferHoldLevel ≤ u.bufferCount && !u.receiveHeld then
    { u with receiveHeld := true, flowOwed := u.flowOwed ++ [.hold] }
  else u

/-- After the buffer count fell: at 128 or less with the mark set, the mark is cleared and a GO is owed (R170). -/
def Uplink.afterFall (u : Uplink) : Uplink :=
  if u.bufferCount ≤ Config.bufferGoLevel && u.receiveHeld then
    { u with receiveHeld := false, flowOwed := u.flowOwed ++ [.go] }
  else u

/-- The frame in progress is garbled: its bytes leave the buffer, the receiver goes on in `next`, and one
UPLINK-GARBLED alert is raised (R167). -/
def State.garble (s : State) (next : RxState) : State :=
  (s.withUplink { s.uplink with rx := next, escape := false, part := [] }.afterFall).raise .uplinkGarbled

/-- A new frame begins with count 0 (R165). -/
def Uplink.beginFrame (u : Uplink) : Uplink := { u with rx := .frame, escape := false, part := [] }

/-- The number of decoded bytes a frame has in all, from its length byte: L + 2 (R166). -/
def frameSize (length : Byte) : Nat := length.toNat + 2

/-- The end of a frame: kept whole when its bytes sum to a multiple of 256, else garbled (R167). -/
def State.endFrame (s : State) : State :=
  if byteSum s.uplink.part % 256 = 0 then
    s.withUplink { s.uplink with rx := .idle, escape := false, frames := s.uplink.frames ++ [s.uplink.part], part := [] }
  else s.garble .idle

/-- A decoded content byte is stored and counted, and the length or the end of the frame judged (R166, R169). -/
def State.storeByte (s : State) (b : Byte) : State :=
  if Config.bufferCapacity ≤ s.uplink.bufferCount then s.garble .discard
  else
    let u := { s.uplink with escape := false, part := s.uplink.part ++ [b] }.afterRise
    let s1 := s.withUplink u
    let length := byteAt u.part 0
    if length.toNat = 0 ∨ 41 < length.toNat then s1.garble .discard
    else if u.part.length = frameSize length then s1.endFrame
    else s1

/-- A byte of a frame's content in FRAME: escape marker or content byte (R166). -/
def State.contentByte (s : State) (b : Byte) : State :=
  if b = 0xF0 then
    if s.uplink.escape then s.garble .discard else s.withUplink { s.uplink with escape := true }
  else if s.uplink.escape then
    if needsEscape (b ^^^ 0x40) then s.storeByte (b ^^^ 0x40) else s.garble .discard
  else s.storeByte b

/-- A byte that is no flow byte, by the receiver's state and its stop bit (R165). -/
def State.frameByte (s : State) (b : Byte) (stopOk : Bool) : State :=
  match s.uplink.rx with
  | .idle =>
    if stopOk && b == 0xC5 then s.withUplink s.uplink.beginFrame
    else (s.withUplink { s.uplink with rx := .discard }).raise .uplinkGarbled
  | .frame =>
    if !stopOk then s.garble .discard
    else if b = 0xC5 then
      let s1 := s.garble .frame
      s1.withUplink s1.uplink.beginFrame
    else s.contentByte b
  | .discard => if stopOk && b == 0xC5 then s.withUplink s.uplink.beginFrame else s

/-- The flow bytes owed on an idle UPTX have left before a frame begins (R172, R173; log 13). -/
def Uplink.flushFlow (u : Uplink) : Uplink :=
  { u with flowOwed := [], lastFlow := match u.flowOwed.getLast? with | some f => some f | none => u.lastFlow }

/-- A frame begins on UPTX (R172). -/
def State.begin (s : State) (source : TxSource) (line : List Byte) : State :=
  s.withUplink { s.uplink.flushFlow with tx := some ⟨source, line⟩ }

/-- The transmitter is free: no frame in progress and not held by the host (R162). -/
def State.transmitterFree (s : State) : Bool := s.alive && s.uplink.tx.isNone && !s.uplink.hostHeld

/-- The notice unit's choice and the beginning of its frame (R161, R162): pending reply, ALERT, QUEST, EVENT. An alert
entry leaves its queue now, a quest notice or echo stays at its head. -/
def State.startFrame (s : State) : State :=
  match s.handler with
  | .reply r => (s.withHandler (.sending r)).begin .reply (replyLine r)
  | _ =>
    match s.notices.alerts, s.notices.quests, s.notices.events with
    | e :: rest, _, _ => (s.withNotices { s.notices with alerts := rest }).begin .alert (alertLine e)
    | [], n :: _, _ => s.begin (.quest true) (questLine n)
    | [], [], e :: _ => s.begin (.event true) (eventLine e)
    | [], [], [] => s

/-- HOLD received: no further frame begins (R171). -/
def State.hostHold (s : State) : State := s.withUplink { s.uplink with hostHeld := true }

/-- GO received: the mark is cleared, and with no frame in progress the choice of R162 is made at once (R171). -/
def State.hostGo (s : State) : State :=
  let s1 := s.withUplink { s.uplink with hostHeld := false }
  if s.uplink.hostHeld && s1.transmitterFree then s1.startFrame else s1

/-- Any byte on UPRX (R165). -/
def State.receive (s : State) (b : Byte) (stopOk : Bool) : State :=
  if s.alive then
    if stopOk && b == 0xF1 then s.hostHold
    else if stopOk && b == 0xF2 then s.hostGo
    else s.frameByte b stopOk
  else s

end Sys2Proof.Machine
end

