-- ==== Sys2Proof/Machine/Requests.lean ====
section
/-! DEFINITION. REQUEST_TAKE: the request handler takes a frame and decodes its kind (R174, R175, R183). -/

namespace Sys2Proof.Machine

open Sys2Proof

/-- The service of a request kind that the handler serves directly (R175). -/
def directItem (kind : Byte) : Option (List Byte → State → State × Reply) :=
  match kind.toNat with
  | 0x01 => some identifyItem
  | 0x02 => some armStatusItem
  | 0x03 => some tileReadItem
  | 0x04 => some armStartItem
  | 0x05 => some armStopItem
  | 0x06 => some dozeItem
  | 0x07 => some diagCaptureItem
  | _ => none

/-- The kinds of management requests: 0x08 to 0x1B (R135, R175). -/
def isManagement (kind : Byte) : Bool := 0x08 ≤ kind.toNat && kind.toNat ≤ 0x1B

/-- A taken request is served directly, becomes the pending management item, or is answered UNKNOWN (R175). -/
def State.decodeRequest (s : State) (kind : Byte) (body : List Byte) : State :=
  match directItem kind with
  | some item => (item body s).1.withHandler (.reply (item body s).2)
  | none =>
    if isManagement kind then s.withHandler (.pending kind body)
    else s.withHandler (.reply ⟨kind, .unknown, [kind]⟩)

/-- REQUEST_TAKE: the free handler takes the oldest complete frame, whose bytes leave the buffer (R169, R170, R174). -/
def execRequestTake (s : State) : Host.Outcome State Fault Refusal :=
  .next (match s.alive, s.handler, s.uplink.frames with
    | true, .idle, f :: rest =>
      (s.withUplink { s.uplink with frames := rest }.afterFall).decodeRequest (byteAt f 1) ((f.drop 2).dropLast)
    | _, _, _ => s)

end Sys2Proof.Machine
end

