-- ==== Sys2Proof/Machine/Scrub.lean ====
section
/-! DEFINITION. The scrubber and upsets of stored bits (R141, R148, R149). -/

namespace Sys2Proof.Machine

open Sys2Proof

/-- The end of a scrubber visit: a pending write-back is written and becomes none (R149). -/
def RuleMemory.endVisit (m : RuleMemory) : RuleMemory :=
  match m.writeBack with
  | some w => { m with entries := m.entries.set w.rule w.entry, writeBack := none }
  | none => m

/-- ENABLED, DISABLED and SPENT rules are visited by the scrubber (R148). -/
def RuleState.scrubbed (r : RuleState) : Bool :=
  match r with
  | .enabled => true
  | .disabled => true
  | .spent => true
  | .empty => false
  | .quarantined => false

/-- The visit of a slot, if the rule at the scrub index is to be visited (R148, R149). -/
def State.scrubVisit (s : State) : State :=
  if (s.rule s.memory.scrubIndex).scrubbed then (checkedRead .scrub s.memory.scrubIndex s).1 else s

/-- The scrub index advances, from 255 to 0 (R148). -/
def RuleMemory.advance (m : RuleMemory) : RuleMemory := { m with scrubIndex := m.scrubIndex + 1 }

/-- A slot of the scrubber: a visit still open has ended long before (log 17); with scrub on, a visit or none, and the
index advances (R148). -/
def State.scrubSlot (s : State) : State :=
  let s1 := s.withMemory s.memory.endVisit
  if s1.engine.scrub then s1.scrubVisit.withMemory s1.scrubVisit.memory.advance else s1

/-- SCRUB_SLOT (R148). -/
def execScrubSlot (s : State) : Host.Outcome State Fault Refusal :=
  .next (if s.alive then s.scrubSlot else s)

/-- SCRUB_WRITE_BACK (R149). -/
def execScrubWriteBack (s : State) : Host.Outcome State Fault Refusal :=
  .next (if s.alive then s.withMemory s.memory.endVisit else s)

/-- BIT_UPSET: one stored bit is inverted, at any time, unnoticed (R141; log 19). -/
def execBitUpset (entry : Fin 256) (position : Fin 233) (s : State) : Host.Outcome State Fault Refusal :=
  .next (s.withMemory { s.memory with
    entries := s.memory.entries.set entry (flipBit s.memory.entries[entry] position) })

end Sys2Proof.Machine
end

