-- ==== Sys2Proof/Machine/Uplink.lean ====
section
/-! DEFINITION. The commands of the uplink port: received bytes, quiet, flow bytes, transmitted frames
(spec/10_uplink_and_management_requests.md, spec/09_notices.md R161 to R163). -/

namespace Sys2Proof.Machine

open Sys2Proof

/-- UPLINK_BYTE_RECEIVED (R165; log 15). -/
def execUplinkByteReceived (value : Byte) (stopOk : Bool) (s : State) : Host.Outcome State Fault Refusal :=
  .next (s.receive value stopOk)

/-- HOLD_RECEIVED (R165, R171). -/
def execHoldReceived (stopOk : Bool) (s : State) : Host.Outcome State Fault Refusal :=
  .next (s.receive 0xF1 stopOk)

/-- GO_RECEIVED (R165, R171; log 14). -/
def execGoReceived (stopOk : Bool) (s : State) : Host.Outcome State Fault Refusal :=
  .next (s.receive 0xF2 stopOk)

/-- PARTIAL_FRAME_TIMEOUT: in FRAME the frame is garbled and the receiver returns to IDLE (R168). -/
def execPartialFrameTimeout (s : State) : Host.Outcome State Fault Refusal :=
  .next (if s.alive && s.uplink.rx == .frame then s.garble .idle else s)

/-- DISCARD_QUIET: in DISCARD the receiver returns to IDLE without an alert (R168). -/
def execDiscardQuiet (s : State) : Host.Outcome State Fault Refusal :=
  .next (if s.alive && s.uplink.rx == .discard then s.withUplink { s.uplink with rx := .idle } else s)

/-- FLOW_BYTE_SEND: the oldest owed flow byte leaves, whatever else waits (R172). -/
def execFlowByteSend (s : State) : Host.Outcome State Fault Refusal :=
  .next (match s.alive, s.uplink.flowOwed with
    | true, f :: rest => s.withUplink { s.uplink with flowOwed := rest, lastFlow := some f }
    | _, _ => s)

/-- TRANSMIT_FRAME_START (R161, R162). -/
def execTransmitFrameStart (s : State) : Host.Outcome State Fault Refusal :=
  .next (if s.transmitterFree then s.startFrame else s)

/-- The end of a frame at its source: a reply frees the request handler, a quest notice or echo that still stands in
its queue leaves it (R161, R163, R174). -/
def State.frameSent (s : State) (source : TxSource) : State :=
  match source with
  | .reply => s.withHandler .idle
  | .alert => s
  | .quest held => if held then s.withNotices { s.notices with quests := s.notices.quests.tail } else s
  | .event held => if held then s.withNotices { s.notices with events := s.notices.events.tail } else s

/-- TRANSMIT_FRAME_END (R161, R174). -/
def execTransmitFrameEnd (s : State) : Host.Outcome State Fault Refusal :=
  .next (match s.alive, s.uplink.tx with
    | true, some t => (s.withUplink { s.uplink with tx := none }).frameSent t.source
    | _, _ => s)

end Sys2Proof.Machine
end

