-- ==== Sys2Proof/Machine/Besides.lean ====
section
/-! DEFINITION. What the other blocks do while an event item is in flight (R130; log 4). -/

namespace Sys2Proof.Machine

open Sys2Proof

/-- The state a meaning leaves; one that ended in a fault or a refusal would leave the state it started from. -/
def State.after (s : State) (o : Host.Outcome State Fault Refusal) : State :=
  match o with
  | .next t => t
  | .fault _ => s
  | .refused _ => s

/-- A command that falls inside an event item: the arms, the quest timer unit, rule memory, the uplink port and the
request handler carry out theirs (R130), the engine takes no second item (R123), and a reset is not told apart from one
behind the item, which ends at the same values (R140). -/
def besides (c : Instr) (s : State) : State :=
  match c with
  | .powerOn => s
  | .resetLine => s
  | .uplinkByteReceived value stopOk => s.after (execUplinkByteReceived value stopOk s)
  | .holdReceived stopOk => s.after (execHoldReceived stopOk s)
  | .goReceived stopOk => s.after (execGoReceived stopOk s)
  | .partialFrameTimeout => s.after (execPartialFrameTimeout s)
  | .discardQuiet => s.after (execDiscardQuiet s)
  | .flowByteSend => s.after (execFlowByteSend s)
  | .transmitFrameStart => s.after (execTransmitFrameStart s)
  | .transmitFrameEnd => s.after (execTransmitFrameEnd s)
  | .requestTake => s.after (execRequestTake s)
  | .identify body => s.after (execIdentify body s)
  | .armStatus body => s.after (execArmStatus body s)
  | .tileRead body => s.after (execTileRead body s)
  | .armStart body => s.after (execArmStart body s)
  | .armStop body => s.after (execArmStop body s)
  | .doze body => s.after (execDoze body s)
  | .diagCapture body => s.after (execDiagCapture body s)
  | .setup _ => s
  | .tileWrite _ => s
  | .ruleWrite _ => s
  | .ruleRead _ => s
  | .ruleEnable _ => s
  | .ruleDisable _ => s
  | .rawRead _ => s
  | .rawWrite _ => s
  | .questWrite _ => s
  | .questRead _ => s
  | .questStart _ => s
  | .questAbort _ => s
  | .scoreSet _ => s
  | .scoreRead _ => s
  | .turnSet _ => s
  | .effectSend _ => s
  | .inject _ => s
  | .engineHold _ => s
  | .engineRun _ => s
  | .gameReset _ => s
  | .tileEventTake => s
  | .expiryTake => s
  | .injectTake => s
  | .questTick => s.after (execQuestTick s)
  | .questTimerExpiry quest => s.after (execQuestTimerExpiry quest s)
  | .scrubSlot => s.after (execScrubSlot s)
  | .scrubWriteBack => s.after (execScrubWriteBack s)
  | .bitUpset entry position => s.after (execBitUpset entry position s)
  | .pollSend arm => s.after (execPollSend arm s)
  | .effectFrameSend arm => s.after (execEffectFrameSend arm s)
  | .assignSend arm => s.after (execAssignSend arm s)
  | .effectFrameEnd arm => s.after (execEffectFrameEnd arm s)
  | .assignEnd arm => s.after (execAssignEnd arm s)
  | .pollAnswer arm answer => s.after (execPollAnswer arm answer s)
  | .replyWindowClose arm => s.after (execReplyWindowClose arm s)
  | .strayFrame arm frame => s.after (execStrayFrame arm frame s)
  | .dozeWaitEnd arm => s.after (execDozeWaitEnd arm s)
  | .emptyRotationWaitEnd arm => s.after (execEmptyRotationWaitEnd arm s)
  | .rstnRelease => s

/-- The steps of other blocks that fall at a moment of the item, in their order (R130). -/
def during (asides : List Aside) (m : Moment) (s : State) : State :=
  (asides.filter fun x => x.moment == m).foldl (fun t x => besides x.command t) s

end Sys2Proof.Machine
end

