-- ==== Sys2Proof/Machine/Scan.lean ====
section
/-! DEFINITION. Matching, firing and rule actions: one scan of the rule table for one event
(spec/06_rule_table_and_matching.md R110 to R120, spec/07_engine_operation.md R131 to R134). -/

namespace Sys2Proof.Machine

open Sys2Proof

/-! ### Matching (R111 to R113) -/

/-- The piece an event carries (R111). -/
def Event.piece (e : Event) : Option Piece :=
  match e with
  | .tile r =>
    match r.event with
    | .place p => some p
    | .lift p => some p
    | .press => none
    | .release => none
  | .timer _ => none
  | .injected _ => none

/-- The trigger test (R111). -/
def triggerTest (t : Trigger) (e : Event) : Bool :=
  match e with
  | .tile r =>
    match t with
    | .tileAny => true
    | .press => r.event == .press
    | .release => r.event == .release
    | .place => match r.event with | .place _ => true | _ => false
    | .lift => match r.event with | .lift _ => true | _ => false
    | .timer => false
    | .injected => false
  | .timer _ => t == .timer
  | .injected _ => t == .injected

/-- The place test (R111). -/
def placeTest (p : Place) (e : Event) : Bool :=
  match p with
  | .any => true
  | .zone z => match e with | .tile r => r.zone == z | _ => false
  | .tile i => match e with | .tile r => tileIndex r.arm r.position == i | _ => false
  | .quest k => match e with | .timer q => q == k | _ => false
  | .code c => match e with | .injected d => d == c | _ => false

/-- The piece test (R111). -/
def pieceTest (f : PieceFilter) (turn : Fin 6) (e : Event) : Bool :=
  match f with
  | .any => true
  | .piece i => match e.piece with | some p => p.id == i | none => false
  | .seat n => match e.piece with | some p => p.seat == .player n | none => false
  | .turnSeat => match e.piece with | some p => p.seat == .player turn | none => false
  | .neutral => match e.piece with | some p => p.seat == .neutral | none => false

/-- The quest gate test (R112). -/
def gateTest (g : Option Gate) (s : State) : Bool :=
  match g with
  | none => true
  | some gate =>
    (s.quest gate.quest).state == .active &&
      (match gate.stage with | none => true | some st => (s.quest gate.quest).stage == st)

/-- A score as the 16-bit number a guard reads (R89). -/
def Score.half (x : Score) : Half := BitVec.ofNat 16 x.value

/-- The guard test (R88, R89). -/
def guardTest (g : Guard) (home : Option (Fin 16)) (s : State) : Bool :=
  match g.source with
  | .none => true
  | .counter c =>
    match home with
    | some q => condHolds g.condition (guardFlags (s.quest q).counters[c] g.operand)
    | none => false
  | .seatScore n => condHolds g.condition (guardFlags (s.engine.scores[n]).half g.operand)
  | .turnScore => condHolds g.condition (guardFlags (s.engine.scores[s.engine.turn]).half g.operand)

/-- All five tests (R111). -/
def ruleMatches (r : RuleRecord) (e : Event) (s : State) : Bool :=
  triggerTest r.trigger e && placeTest r.place e && pieceTest r.piece s.engine.turn e && gateTest r.gate s
    && guardTest r.guard r.home s

/-! ### Actions (R131 to R133) -/

/-- How an action ends: with a next state, performed or skipped, or in a rule fault (R131). -/
inductive ActionResult where
  | done (s : State)
  | fault (code : FaultCode)

/-- A counter action's store into the home quest: counter and flags together (R80). -/
def State.storeCounter (s : State) (q : Fin 16) (c : Fin 4) (r : Half × Flags) : State :=
  let x := s.quest q
  s.withQuest q { x with counters := x.counters.set c r.1, flags := r.2 }

/-- The operand b of a COUNT action (R81). -/
def countOperand (x : Quest) (o : CountOperand) : Half :=
  match o with
  | .constant v => v
  | .counter c => x.counters[c]

/-- A COUNT action on the home quest (R80 to R84). -/
def performCount (s : State) (q : Fin 16) (op : CountOp) (c : Fin 4) (o : CountOperand) : State :=
  let x := s.quest q
  s.storeCounter q c (countAction op (x.definition.counters[c]).clamp x.counters[c] (countOperand x o))

/-- SET-IF on the home quest (R85). -/
def performSetIf (s : State) (q : Fin 16) (c : Fin 4) (condition : Fin 16) : State :=
  let x := s.quest q
  s.storeCounter q c (setIfAction condition (x.definition.counters[c]).clamp x.flags)

/-- A seat that is in play (R91). -/
def seatInPlay (s : State) (n : Fin 6) : Option (Fin 6) := if n.val < s.engine.seatCount then some n else none

/-- The seat a selector resolves to, none where the action is skipped (R91). -/
def resolveSeat (s : State) (sel : SeatSelector) (e : Event) (home : Option (Fin 16)) : Option (Fin 6) :=
  match sel with
  | .seat n => seatInPlay s n
  | .turn => some s.engine.turn
  | .pieceOwner =>
    match e.piece with
    | some p => match p.seat with | .player n => seatInPlay s n | .neutral => none
    | none => none
  | .questOwner =>
    match home with
    | some q => (s.quest q).definition.owner.bind (seatInPlay s)
    | none => none

/-- A score action on a resolved seat: the new score and its SCORE notice (R92 to R94). -/
def performScore (s : State) (f : Score → Score → Score) (seat : Option (Fin 6)) (amount : Fin 10000) : State :=
  match seat with
  | none => s
  | some n =>
    let x := f s.engine.scores[n] (Score.ofNat amount.val false)
    (s.withEngine { s.engine with scores := s.engine.scores.set n x }).notify (.score n x)

/-- STAGE-ADVANCE on an ACTIVE home quest (R66). -/
def performStageAdvance (s : State) (q : Fin 16) : State :=
  let x := s.quest q
  if h : x.stage.val < x.definition.finalStage.val then
    let next : Fin 16 := ⟨x.stage.val + 1, by have := x.definition.finalStage.isLt; omega⟩
    (s.withQuest q { x with stage := next }).notify (.stage q next)
  else (s.endQuest q .complete .completed).notify (.complete q)

/-- STAGE-SET on an ACTIVE home quest (R67). -/
def performStageSet (s : State) (q : Fin 16) (stage : Fin 16) : State :=
  let x := s.quest q
  let st := if stage.val ≤ x.definition.finalStage.val then stage else x.definition.finalStage
  (s.withQuest q { x with stage := st }).notify (.stage q st)

/-- QUEST-START, action form (R68). -/
def performQuestStart (s : State) (k : Fin 16) : ActionResult :=
  match (s.quest k).state with
  | .idle => .fault .questUndefined
  | .active => .done s
  | .complete => .fault .notStartable
  | .failed => .fault .notStartable
  | .loaded =>
    if s.prerequisiteMet (s.quest k).definition then .done ((s.activate k).notify (.questStarted k))
    else .fault .prereqUnmet

/-- An effect for one tile: appended when the position is PRESENT and its arm drives its pair (R52, R53). -/
def effectToTile (s : State) (i : ArmId) (p : Fin 32) (e : Effect) : State :=
  if (s.presence i p).state = .present then s.enqueue i ⟨.tile p, e⟩ else s

/-- An effect action's entries (R51 to R54). -/
def performEffect (s : State) (e : Effect) (t : EffectTarget) (ev : Event) : State :=
  match t with
  | .source =>
    match ev with
    | .tile r => effectToTile s r.arm r.position e
    | .timer _ => s
    | .injected _ => s
  | .tile i => effectToTile s (indexArm i) (indexPosition i) e
  | .zone z => (s.enqueue .a ⟨.zone z, e⟩).enqueue .b ⟨.zone z, e⟩
  | .all => (s.enqueue .a ⟨.all, e⟩).enqueue .b ⟨.all, e⟩

/-- The seat after the turn seat (R97). -/
def nextSeat (g : Engine) : Fin 6 := ⟨(g.turn.val + 1) % g.seatCount % 6, Nat.mod_lt _ (by decide)⟩

/-- A seat lowered to the last seat in play (R98). -/
def clampSeat (g : Engine) (n : Fin 6) : Fin 6 :=
  if n.val < g.seatCount then n else ⟨(g.seatCount - 1) % 6, Nat.mod_lt _ (by decide)⟩

/-- The turn moves to a seat, with its TURN notice (R97, R98). -/
def performTurn (s : State) (n : Fin 6) : State := (s.withEngine { s.engine with turn := n }).notify (.turn n)

/-- The rule state after RULE-ENABLE (R108, R118). -/
def enabledRule (r : RuleState) : RuleState :=
  match r with
  | .disabled => .enabled
  | .spent => .enabled
  | .enabled => .enabled
  | .empty => .empty
  | .quarantined => .quarantined

/-- The rule state after RULE-DISABLE (R108, R118). -/
def disabledRule (r : RuleState) : RuleState :=
  match r with
  | .enabled => .disabled
  | .spent => .disabled
  | .disabled => .disabled
  | .empty => .empty
  | .quarantined => .quarantined

/-- An action on the home quest; a record without one holds no such action (R104; log 22). -/
def onHome (s : State) (home : Option (Fin 16)) (f : Fin 16 → State) : ActionResult :=
  match home with
  | some q => .done (f q)
  | none => .done s

/-- The performance of an action by its kind (R132). -/
def performAction (s : State) (ev : Event) (home : Option (Fin 16)) (a : Action) : ActionResult :=
  match a.kind with
  | .count op c o => onHome s home fun q => performCount s q op c o
  | .setIf c => onHome s home fun q => performSetIf s q c a.condition
  | .scoreAdd sel n => .done (performScore s scoreAdd (resolveSeat s sel ev home) n)
  | .scoreSub sel n => .done (performScore s scoreSub (resolveSeat s sel ev home) n)
  | .stageAdvance => onHome s home fun q => performStageAdvance s q
  | .stageSet st => onHome s home fun q => performStageSet s q st
  | .questStart k => performQuestStart s k
  | .questComplete => onHome s home fun q => (s.endQuest q .complete .completed).notify (.complete q)
  | .questFail => onHome s home fun q => (s.endQuest q .failed .failedByRule).notify (.failed q .failedByRule)
  | .timerStart t => onHome s home fun q => s.startTimer q t
  | .timerStop => onHome s home fun q => s.stopTimer q
  | .effect e t => .done (performEffect s e t ev)
  | .turnNext => .done (performTurn s (nextSeat s.engine))
  | .turnSet n => .done (performTurn s (clampSeat s.engine n))
  | .signal c => .done (s.notify (.signal home c))
  | .ruleEnable i => .done (s.withRule i (enabledRule (s.rule i)))
  | .ruleDisable i => .done (s.withRule i (disabledRule (s.rule i)))

/-- SET-IF records its condition and is not gated by it (R131 step 2). -/
def Action.isSetIf (a : Action) : Bool := match a.kind with | .setIf _ => true | _ => false

/-- The three decisions of a reached action: home quest, condition, performance (R131). -/
def runAction (s : State) (ev : Event) (home : Option (Fin 16)) (a : Action) : ActionResult :=
  if a.isHome then
    match home with
    | none => .done s
    | some q =>
      match (s.quest q).state with
      | .idle => .fault .questUndefined
      | .active =>
        if a.isSetIf || condHolds a.condition (s.quest q).flags then performAction s ev home a else .done s
      | .loaded => .done s
      | .complete => .done s
      | .failed => .done s
  else performAction s ev home a

/-- The actions of a fired rule in list order, from list position `n`, each at its own moment, behind what the other
blocks do before it; a fault raises RULE-FAULT and abandons the rest (R114, R115, R130, R134). -/
def runActions (asides : List Aside) (ev : Event) (rule : Fin 256) (home : Option (Fin 16)) (n : Nat) (s : State) :
    List Action → State
  | [] => s
  | a :: rest =>
    let now := during asides (.action rule n) s
    match runAction now ev home a with
    | .done s' => runActions asides ev rule home (n + 1) s' rest
    | .fault code => now.raise (.ruleFault rule n code)

/-- The firing of a rule, less the fired count (R114). -/
def fireRule (asides : List Aside) (ev : Event) (i : Fin 256) (r : RuleRecord) (s : State) : State :=
  runActions asides ev i r.home 1 (if r.singleShot then s.withRule i .spent else s) r.actions

/-! ### The scan (R110, R116) -/

/-- The scan at an ENABLED rule: the fetch and, where the fetched record matches, the firing, with the record that
fired; a record that R104 would refuse does not match (R110, R111, R114). R110 says the last of a record that RAW-WRITE
stored; that it holds as well of one that three or more upsets have made so is the model's choice (DESIGN CHOICE, log 34). -/
def scanRule (asides : List Aside) (ev : Event) (i : Fin 256) (s : State) : State × Option RuleRecord :=
  let read := checkedRead .scan i s
  match read.2.bind decodeRule with
  | some r => if ruleMatches r ev read.1 then (fireRule asides ev i r read.1, some r) else (read.1, none)
  | none => (read.1, none)

/-- The scan over the indices that are left, with its fired count; a rule that is not ENABLED when the scan comes to it
is passed over without a fetch, and the scan goes on past a fired rule only when it chains and fewer than four have
fired (R110, R116, R130). No step of another block, and so no scrubber visit, falls between the read of the rule's state and
the fetch of its entry (DESIGN CHOICE, log 4). -/
def scanRules (asides : List Aside) (ev : Event) (fired : Nat) (s : State) : List (Fin 256) → State × Nat
  | [] => (s, fired)
  | i :: rest =>
    let now := during asides (.fetch i) s
    if now.rule i = .enabled then
      let here := scanRule asides ev i now
      if here.2.isSome then
        if here.2.any RuleRecord.chain && fired + 1 < Config.firedLimit then
          scanRules asides ev (fired + 1) here.1 rest
        else (here.1, fired + 1)
      else scanRules asides ev fired here.1 rest
    else scanRules asides ev fired now rest

/-- The echo decision of R119. -/
def echoOwed (s : State) (ev : Event) (fired : Nat) : Bool :=
  match ev with
  | .tile r => (s.mapRec r.arm r.position).echo || (fired == 0 && s.engine.unclaimedEcho)
  | .timer _ => fired == 0 && s.engine.unclaimedEcho
  | .injected _ => fired == 0 && s.engine.unclaimedEcho

/-- The rule indices in the order of the scan; irreducible, so that no proof runs the whole scan by accident. -/
@[irreducible] def allRules : List (Fin 256) := List.finRange 256

/-- An event item from its scan to its end: the scan, the echo decision, the ECHO, with what the other blocks do
meanwhile (R110, R119, R128, R130). -/
def runEvent (asides : List Aside) (ev : Event) (s : State) : State :=
  let scan := scanRules asides ev 0 s allRules
  let now := during asides .echo scan.1
  (if echoOwed now ev scan.2 then now.placeEcho ⟨ev, scan.2⟩ else now).endItem

/-- The steps of other blocks that fall inside the event item taken next (R130; log 4). -/
def State.asides (s : State) : List Aside := s.meanwhile.headD []

/-- An event item is taken: its own steps of other blocks leave the list (log 4). -/
def State.spendAsides (s : State) : State := s.withMeanwhile s.meanwhile.tail

/-! ### Arbiter and admission (R123 to R127) -/

/-- The room an arm's effect queue must have: 16 free entries while the arm is ENUMERATING or RUNNING (R126). -/
def Arm.admits (x : Arm) : Bool := !x.active || x.effects.length + Config.admissionRoom ≤ Config.effectCapacity

/-- The admission test (R126). -/
def State.admission (s : State) : Bool :=
  s.notices.quests.length + Config.admissionRoom ≤ Config.questCapacity
    && s.notices.events.length + 1 ≤ Config.eventCapacity && s.armA.admits && s.armB.admits

/-- What the arbiter takes. -/
inductive Choice where
  | management (kind : Byte) (body : List Byte)
  | expiry (quest : Fin 16)
  | inject (code : Byte)
  | fifo (arm : ArmId) (record : EventRecord)
deriving DecidableEq, Repr

/-- The FIFO record step 4 takes: from the arm not served last when both hold records (R124). -/
def State.fifoChoice (s : State) : Option Choice :=
  let first := ArmId.other s.engine.lastServed
  match (s.arm first).fifo, (s.arm s.engine.lastServed).fifo with
  | r :: _, _ => some (.fifo first r)
  | [], r :: _ => some (.fifo s.engine.lastServed r)
  | [], [] => none

/-- The event item the arbiter ranks first (R123 steps 2 to 4). -/
def State.eventChoice (s : State) : Option Choice :=
  match s.engine.expiry with
  | q :: _ => some (.expiry q)
  | [] =>
    match s.engine.inject with
    | some c => some (.inject c)
    | none => s.fifoChoice

/-- The arbiter's choice (R123): none while an item is in flight, a pending management item first, event items in RUN
with admission passing. -/
def State.choose (s : State) : Option Choice :=
  if s.alive && s.engine.inFlight.isNone then
    match s.handler with
    | .pending kind body => some (.management kind body)
    | _ => if s.engine.mode == .run && s.admission then s.eventChoice else none
  else none

end Sys2Proof.Machine
end

