-- ==== Sys2Proof/Machine/Control.lean ====
section
/-! DEFINITION. The engine's own requests: SETUP, TILE-WRITE, EFFECT-SEND, INJECT, ENGINE-HOLD, ENGINE-RUN, GAME-RESET
(R3, R55, R100, R136 to R139). -/

namespace Sys2Proof.Machine

open Sys2Proof

/-- SETUP: all four values at once, the turn moved to seat 0 when its seat is no longer in play (R100, R136). -/
def setupItem (body : List Byte) (s : State) : State × Reply :=
  match parseSetup body with
  | none => (s, Reply.invalid 0x08)
  | some r =>
    (s.withEngine { s.engine with
       seatCount := r.seatCount
       highMark := r.highMark
       unclaimedEcho := r.unclaimedEcho
       scrub := r.scrub
       turn := if s.engine.turn.val < r.seatCount then s.engine.turn else 0 },
     Reply.done 0x08 [])

/-- A TILE-WRITE's record stored, and its consequences at the owning arm (R3 to R7). Where the write has ended a visit, the
arm's rotation moves on, and ends where that was the visit to position 31; with a frame in transmission or being received
on the pair (`onPair`, or a line that is not idle) it does so at the end of that frame (R27, R28; log 7). -/
def State.tileWritten (s : State) (onPair : Bool) (k : Fin 64) (r : TileRec) : State :=
  let x := (s.arm (indexArm k)).rewrite (indexPosition k) s.tileMap[k] r
  let s1 := (s.withTileMap (s.tileMap.set k r)).withArm (indexArm k) x
  if onPair then s1 else s1.bring (indexArm k)

/-- TILE-WRITE (R3 to R7); whether a frame is on the pair at that moment is a free value (log 35). -/
def tileWriteItem (body : List Byte) (s : State) : State × Reply :=
  match parseTileWrite body with
  | none => (s, Reply.invalid 0x09)
  | some (k, r) =>
    ((s.tileWritten (Config.frameOnPair s.tileWrites) k r).withTileWrites (s.tileWrites + 1), Reply.done 0x09 [])

/-- A TILE address is dropped when its position is not PRESENT (R55 step 3). -/
def addressPresent (s : State) (i : ArmId) (addr : EffectAddr) : Bool :=
  match addr with
  | .tile p => (s.presence i p).state == .present
  | .zone _ => true
  | .all => true

/-- EFFECT-SEND, its outcomes in the order of R55. -/
def effectSendItem (body : List Byte) (s : State) : State × Reply :=
  match parseEffectSend body with
  | none => (s, Reply.invalid 0x17)
  | some (i, e) =>
    if !(s.arm i).active || !addressPresent s i e.addr then (s, Reply.done 0x17 [1])
    else if Config.effectCapacity ≤ (s.arm i).effects.length then (s, ⟨0x17, .full, []⟩)
    else (s.enqueue i e, Reply.done 0x17 [0])

/-- INJECT (R137). -/
def injectItem (body : List Byte) (s : State) : State × Reply :=
  match body with
  | [code] =>
    match s.engine.inject with
    | none => (s.withEngine { s.engine with inject := some code }, Reply.done 0x18 [])
    | some _ => (s, Reply.busy 0x18)
  | _ => (s, Reply.invalid 0x18)

/-- ENGINE-HOLD (R138). -/
def engineHoldItem (body : List Byte) (s : State) : State × Reply :=
  if body = [] then (s.withEngine { s.engine with mode := .hold }, Reply.done 0x19 []) else (s, Reply.invalid 0x19)

/-- ENGINE-RUN (R138). -/
def engineRunItem (body : List Byte) (s : State) : State × Reply :=
  if body = [] then (s.withEngine { s.engine with mode := .run }, Reply.done 0x1A []) else (s, Reply.invalid 0x1A)

/-- A quest at GAME-RESET: LOADED with its runtime part cleared, unless IDLE (R72). -/
def Quest.gameReset (q : Quest) : Quest := if q.state = .idle then q else Quest.loaded q.definition

/-- A rule state at GAME-RESET: SPENT becomes ENABLED (R109). -/
def RuleState.gameReset (r : RuleState) : RuleState := if r = .spent then .enabled else r

/-- The engine at GAME-RESET (R72, R90, R96, R109, R139). -/
def Engine.gameReset (g : Engine) : Engine :=
  { g with
    quests := g.quests.map Quest.gameReset
    expiry := []
    inject := none
    scores := Vector.replicate 6 Score.zero
    turn := 0
    rules := g.rules.map RuleState.gameReset }

/-- An arm at GAME-RESET: FIFO and effect queue emptied; an effect frame on the line ends as usual, its entry gone
(R48, R57). -/
def Arm.gameReset (x : Arm) : Arm :=
  { x with
    fifo := []
    effects := []
    line := match x.line with
      | .effect frame _ => .effect frame false
      | l => l }

/-- The frame in transmission at GAME-RESET is sent to its end; a quest notice's or echo's entry is gone (R163). -/
def Uplink.gameReset (u : Uplink) : Uplink :=
  { u with tx := u.tx.map fun t => { t with source := match t.source with
      | .quest _ => .quest false
      | .event _ => .event false
      | src => src } }

/-- The timers at GAME-RESET: stopped at 0 for every quest that becomes LOADED (R72). -/
def State.resetTimers (s : State) : Vector Timer 16 :=
  Vector.ofFn fun q => if (s.quest q).state = .idle then s.timers[q] else ⟨false, 0⟩

/-- GAME-RESET: all its changes together (R139). -/
def gameResetItem (body : List Byte) (s : State) : State × Reply :=
  if body = [] then
    ({ s with
       engine := s.engine.gameReset
       timers := s.resetTimers
       armA := s.armA.gameReset
       armB := s.armB.gameReset
       notices := { s.notices with quests := [], events := [] }
       uplink := s.uplink.gameReset },
     Reply.done 0x1B [])
  else (s, Reply.invalid 0x1B)

/-- SETUP. -/
def execSetup (body : List Byte) (s : State) : Host.Outcome State Fault Refusal := .next (serveItem 0x08 setupItem body s)

/-- TILE_WRITE. -/
def execTileWrite (body : List Byte) (s : State) : Host.Outcome State Fault Refusal :=
  .next (serveItem 0x09 tileWriteItem body s)

/-- EFFECT_SEND. -/
def execEffectSend (body : List Byte) (s : State) : Host.Outcome State Fault Refusal :=
  .next (serveItem 0x17 effectSendItem body s)

/-- INJECT. -/
def execInject (body : List Byte) (s : State) : Host.Outcome State Fault Refusal :=
  .next (serveItem 0x18 injectItem body s)

/-- ENGINE_HOLD. -/
def execEngineHold (body : List Byte) (s : State) : Host.Outcome State Fault Refusal :=
  .next (serveItem 0x19 engineHoldItem body s)

/-- ENGINE_RUN. -/
def execEngineRun (body : List Byte) (s : State) : Host.Outcome State Fault Refusal :=
  .next (serveItem 0x1A engineRunItem body s)

/-- GAME_RESET. -/
def execGameReset (body : List Byte) (s : State) : Host.Outcome State Fault Refusal :=
  .next (serveItem 0x1B gameResetItem body s)

end Sys2Proof.Machine
end

