-- ==== Sys2Proof/Machine/Events.lean ====
section
/-! DEFINITION. The three event items of the engine (R79, R128, R129). -/

namespace Sys2Proof.Machine

open Sys2Proof

/-- A tile event from its take to its end (R47, R124, R128). -/
def State.runTileEvent (s : State) (i : ArmId) (r : EventRecord) : State :=
  let s1 := s.withArm i { s.arm i with fifo := (s.arm i).fifo.tail }
  let s2 := s1.withEngine { s1.engine with lastServed := i, inFlight := some (.event (.tile r)) }
  runEvent s.asides (.tile r) s2.spendAsides

/-- An expiry from its take to its end: FAILED with a notice, or a TIMER event scanned (R79, R129). -/
def State.runExpiry (s : State) (q : Fin 16) : State :=
  let s1 := s.withEngine { s.engine with expiry := s.engine.expiry.tail, inFlight := some (.expiry q) }
  match (s.quest q).definition.onTimeout with
  | .fail => ((s1.spendAsides.endQuest q .failed .timedOut).notify (.failed q .timedOut)).endItem
  | .event => runEvent s.asides (.timer q) s1.spendAsides

/-- An injected event from its take to its end (R129). -/
def State.runInject (s : State) (code : Byte) : State :=
  let s1 := s.withEngine { s.engine with inject := none, inFlight := some (.event (.injected code)) }
  runEvent s.asides (.injected code) s1.spendAsides

/-- TILE_EVENT_TAKE: when the arbiter's choice is an intake FIFO (R123, R128). -/
def execTileEventTake (s : State) : Host.Outcome State Fault Refusal :=
  .next (match s.choose with
    | some (.fifo i r) => s.runTileEvent i r
    | _ => s)

/-- EXPIRY_TAKE: when the arbiter's choice is the expiry list (R79, R123). -/
def execExpiryTake (s : State) : Host.Outcome State Fault Refusal :=
  .next (match s.choose with
    | some (.expiry q) => s.runExpiry q
    | _ => s)

/-- INJECT_TAKE: when the arbiter's choice is the inject slot (R123, R129). -/
def execInjectTake (s : State) : Host.Outcome State Fault Refusal :=
  .next (match s.choose with
    | some (.inject c) => s.runInject c
    | _ => s)

end Sys2Proof.Machine
end

