-- ==== Sys2Proof/Machine/Reset.lean ====
section
/-! DEFINITION. POWER_ON, RESET_LINE and RSTN_RELEASE (R140, R158, R173). -/

namespace Sys2Proof.Machine

open Sys2Proof

/-- POWER_ON: every block at its power-on values, STARTED POWER-ON placed, a GO byte owed (R140, R158, R173; log 12). -/
def execPowerOn (s : State) : Host.Outcome State Fault Refusal :=
  .next { State.started .powerOn with pending := s.pending, meanwhile := s.meanwhile, tileWrites := s.tileWrites }

/-- RESET_LINE: every block at its power-on values, held there while RSTN is low (R140, R173; log 11). -/
def execResetLine (s : State) : Host.Outcome State Fault Refusal :=
  .next { State.blank with rstnLow := true, pending := s.pending, meanwhile := s.meanwhile, tileWrites := s.tileWrites }

/-- RSTN_RELEASE: the reset ends, STARTED RESET-LINE is placed and a GO byte is owed (R158, R173). -/
def execRstnRelease (s : State) : Host.Outcome State Fault Refusal :=
  .next (if s.rstnLow then { State.started .resetLine with pending := s.pending, meanwhile := s.meanwhile, tileWrites := s.tileWrites } else s)

end Sys2Proof.Machine
end

