-- ==== Sys2Proof/Machine/Rules.lean ====
section
/-! DEFINITION. The rule table requests and raw access (R104 to R108, R151 to R153). -/

namespace Sys2Proof.Machine

open Sys2Proof

/-- The state a write gives a rule: DISABLED when start-disabled is set, else ENABLED (R105, R152). -/
def writtenState (startDisabled : Bool) : RuleState := if startDisabled then .disabled else .enabled

/-- The reply content of a request that leaves a rule in a state. -/
def ruleReply (i : Fin 256) (r : RuleState) : List Byte := [byteOf i.val, ruleStateCode r]

/-- An entry is written and its rule's state set (R105, R152). -/
def State.writeRule (s : State) (i : Fin 256) (e : BitVec 233) (r : RuleState) : State :=
  (s.withMemory (s.memory.write i e)).withRule i r

/-- RULE-WRITE (R104, R105, R151). -/
def ruleWriteItem (body : List Byte) (s : State) : State × Reply :=
  match parseRuleWrite body with
  | none => (s, Reply.invalid 0x0A)
  | some (i, data, r) =>
    (s.writeRule i (encodeEntry data) (writtenState r.startDisabled),
     Reply.done 0x0A (ruleReply i (writtenState r.startDisabled)))

/-- RULE-READ (R106, R144, R145). -/
def ruleReadItem (body : List Byte) (s : State) : State × Reply :=
  match oneNumber 256 body with
  | none => (s, Reply.invalid 0x0B)
  | some i =>
    let r := checkedRead .read i s
    match r.2 with
    | some data => (r.1, Reply.done 0x0B (ruleReply i (r.1.rule i) ++ unpackRecord data))
    | none => (r.1, Reply.invalid 0x0B)

/-- RULE-ENABLE, host form (R108). -/
def ruleEnableItem (body : List Byte) (s : State) : State × Reply :=
  match oneNumber 256 body with
  | none => (s, Reply.invalid 0x0C)
  | some i =>
    if s.rule i = .empty ∨ s.rule i = .quarantined then (s, Reply.invalid 0x0C)
    else (s.withRule i (enabledRule (s.rule i)), Reply.done 0x0C (ruleReply i (enabledRule (s.rule i))))

/-- RULE-DISABLE, host form (R108). -/
def ruleDisableItem (body : List Byte) (s : State) : State × Reply :=
  match oneNumber 256 body with
  | none => (s, Reply.invalid 0x0D)
  | some i => (s.withRule i (disabledRule (s.rule i)), Reply.done 0x0D (ruleReply i (disabledRule (s.rule i))))

/-- RAW-READ: no check, no change (R153). -/
def rawReadItem (body : List Byte) (s : State) : State × Reply :=
  match oneNumber 256 body with
  | none => (s, Reply.invalid 0x0E)
  | some i => (s, Reply.done 0x0E (ruleReply i (s.rule i) ++ storedBytes s.memory.entries[i]))

/-- RAW-WRITE: computed check bits, then each listed position inverted; the state from the data bytes as given (R152). -/
def rawWriteItem (body : List Byte) (s : State) : State × Reply :=
  match parseRawWrite body with
  | none => (s, Reply.invalid 0x0F)
  | some (i, data, flips) =>
    let r := writtenState ((recordByte data 1).getLsbD 6)
    (s.writeRule i (flips.foldl flipBit (encodeEntry data)) r, Reply.done 0x0F (ruleReply i r))

/-- RULE_WRITE. -/
def execRuleWrite (body : List Byte) (s : State) : Host.Outcome State Fault Refusal :=
  .next (serveItem 0x0A ruleWriteItem body s)

/-- RULE_READ. -/
def execRuleRead (body : List Byte) (s : State) : Host.Outcome State Fault Refusal :=
  .next (serveItem 0x0B ruleReadItem body s)

/-- RULE_ENABLE, host form. -/
def execRuleEnable (body : List Byte) (s : State) : Host.Outcome State Fault Refusal :=
  .next (serveItem 0x0C ruleEnableItem body s)

/-- RULE_DISABLE, host form. -/
def execRuleDisable (body : List Byte) (s : State) : Host.Outcome State Fault Refusal :=
  .next (serveItem 0x0D ruleDisableItem body s)

/-- RAW_READ. -/
def execRawRead (body : List Byte) (s : State) : Host.Outcome State Fault Refusal :=
  .next (serveItem 0x0E rawReadItem body s)

/-- RAW_WRITE. -/
def execRawWrite (body : List Byte) (s : State) : Host.Outcome State Fault Refusal :=
  .next (serveItem 0x0F rawWriteItem body s)

end Sys2Proof.Machine
end

