-- ==== Sys2Proof/Machine/Dispatch.lean ====
section
/-! DEFINITION. One arm per command, each a direct call of its meaning. -/

namespace Sys2Proof.Machine

open Sys2Proof

def exec (i : Instr) (s : State) : Host.Outcome State Fault Refusal :=
  match i with
  | .powerOn => Sys2Proof.Machine.execPowerOn s
  | .resetLine => Sys2Proof.Machine.execResetLine s
  | .uplinkByteReceived value stopOk => Sys2Proof.Machine.execUplinkByteReceived value stopOk s
  | .holdReceived stopOk => Sys2Proof.Machine.execHoldReceived stopOk s
  | .goReceived stopOk => Sys2Proof.Machine.execGoReceived stopOk s
  | .partialFrameTimeout => Sys2Proof.Machine.execPartialFrameTimeout s
  | .discardQuiet => Sys2Proof.Machine.execDiscardQuiet s
  | .flowByteSend => Sys2Proof.Machine.execFlowByteSend s
  | .transmitFrameStart => Sys2Proof.Machine.execTransmitFrameStart s
  | .transmitFrameEnd => Sys2Proof.Machine.execTransmitFrameEnd s
  | .requestTake => Sys2Proof.Machine.execRequestTake s
  | .identify body => Sys2Proof.Machine.execIdentify body s
  | .armStatus body => Sys2Proof.Machine.execArmStatus body s
  | .tileRead body => Sys2Proof.Machine.execTileRead body s
  | .armStart body => Sys2Proof.Machine.execArmStart body s
  | .armStop body => Sys2Proof.Machine.execArmStop body s
  | .doze body => Sys2Proof.Machine.execDoze body s
  | .diagCapture body => Sys2Proof.Machine.execDiagCapture body s
  | .setup body => Sys2Proof.Machine.execSetup body s
  | .tileWrite body => Sys2Proof.Machine.execTileWrite body s
  | .ruleWrite body => Sys2Proof.Machine.execRuleWrite body s
  | .ruleRead body => Sys2Proof.Machine.execRuleRead body s
  | .ruleEnable body => Sys2Proof.Machine.execRuleEnable body s
  | .ruleDisable body => Sys2Proof.Machine.execRuleDisable body s
  | .rawRead body => Sys2Proof.Machine.execRawRead body s
  | .rawWrite body => Sys2Proof.Machine.execRawWrite body s
  | .questWrite body => Sys2Proof.Machine.execQuestWrite body s
  | .questRead body => Sys2Proof.Machine.execQuestRead body s
  | .questStart body => Sys2Proof.Machine.execQuestStart body s
  | .questAbort body => Sys2Proof.Machine.execQuestAbort body s
  | .scoreSet body => Sys2Proof.Machine.execScoreSet body s
  | .scoreRead body => Sys2Proof.Machine.execScoreRead body s
  | .turnSet body => Sys2Proof.Machine.execTurnSet body s
  | .effectSend body => Sys2Proof.Machine.execEffectSend body s
  | .inject body => Sys2Proof.Machine.execInject body s
  | .engineHold body => Sys2Proof.Machine.execEngineHold body s
  | .engineRun body => Sys2Proof.Machine.execEngineRun body s
  | .gameReset body => Sys2Proof.Machine.execGameReset body s
  | .tileEventTake => Sys2Proof.Machine.execTileEventTake s
  | .expiryTake => Sys2Proof.Machine.execExpiryTake s
  | .injectTake => Sys2Proof.Machine.execInjectTake s
  | .questTick => Sys2Proof.Machine.execQuestTick s
  | .questTimerExpiry quest => Sys2Proof.Machine.execQuestTimerExpiry quest s
  | .scrubSlot => Sys2Proof.Machine.execScrubSlot s
  | .scrubWriteBack => Sys2Proof.Machine.execScrubWriteBack s
  | .bitUpset entry position => Sys2Proof.Machine.execBitUpset entry position s
  | .pollSend arm => Sys2Proof.Machine.execPollSend arm s
  | .effectFrameSend arm => Sys2Proof.Machine.execEffectFrameSend arm s
  | .assignSend arm => Sys2Proof.Machine.execAssignSend arm s
  | .effectFrameEnd arm => Sys2Proof.Machine.execEffectFrameEnd arm s
  | .assignEnd arm => Sys2Proof.Machine.execAssignEnd arm s
  | .pollAnswer arm answer => Sys2Proof.Machine.execPollAnswer arm answer s
  | .replyWindowClose arm => Sys2Proof.Machine.execReplyWindowClose arm s
  | .strayFrame arm frame => Sys2Proof.Machine.execStrayFrame arm frame s
  | .dozeWaitEnd arm => Sys2Proof.Machine.execDozeWaitEnd arm s
  | .emptyRotationWaitEnd arm => Sys2Proof.Machine.execEmptyRotationWaitEnd arm s
  | .rstnRelease => Sys2Proof.Machine.execRstnRelease s

end Sys2Proof.Machine
end

