-- ==== Sys2Proof/Safety.lean ====
section
/-! DEFINITION. What a sound state of the VQ412 is, block by block, in the terms the statements use. Each predicate
gathers what numbered rules of the spec say can never be otherwise. -/

namespace Sys2Proof.Machine

open Sys2Proof

/-- The setup values lie in their ranges and the turn seat is in play (R96, R121). -/
def State.setupSound (s : State) : Prop :=
  1 ≤ s.engine.seatCount ∧ s.engine.seatCount ≤ 6 ∧ s.engine.turn.val < s.engine.seatCount ∧
  1 ≤ s.engine.highMark ∧ s.engine.highMark ≤ 16

/-- The ALERT queue holds at most 8 entries, no two equal in kind and subject, each with a repeat count of 1 to 255
(R154, R155). -/
def State.alertsSound (s : State) : Prop :=
  s.notices.alerts.length ≤ 8 ∧
  s.notices.alerts.Pairwise (fun x y => x.alert.sameSubject y.alert = false) ∧
  ∀ e ∈ s.notices.alerts, 1 ≤ e.count ∧ e.count ≤ 255

/-- A poll is on the pair, awaiting its answer. -/
def Line.awaiting (l : Line) : Bool :=
  match l with
  | .poll _ _ => true
  | .free => false
  | .lapsed => false
  | .assign _ _ _ => false
  | .effect _ _ => false

/-- An arm's queues fit, there is room for the answer of a poll under way, and an arm that is OFF or FAULTED has an
empty effect queue and drives nothing (R26, R36, R45, R50, R57). -/
def Arm.queuesSound (x : Arm) : Prop :=
  x.fifo.length ≤ 16 ∧ x.effects.length ≤ 32 ∧ (x.line.awaiting = true → x.fifo.length < 16) ∧
  (x.active = false → x.effects = [] ∧ x.line = .free)

/-- Every queue and buffer of the part is within its capacity (R45, R50, R58, R127, R154, R169). -/
def State.queuesSound (s : State) : Prop :=
  (∀ i, (s.arm i).queuesSound) ∧ s.engine.highMark ≤ 16 ∧ s.notices.quests.length ≤ 32 ∧
  s.notices.events.length ≤ 24 ∧ s.uplink.bufferCount ≤ 512

/-- The pairings of a quest's state and end reason that R185 lists. -/
def Quest.reasonFits (x : Quest) : Bool :=
  match x.state, x.endReason with
  | .idle, .none => true
  | .loaded, .none => true
  | .active, .none => true
  | .complete, .completed => true
  | .failed, .failedByRule => true
  | .failed, .timedOut => true
  | .failed, .aborted => true
  | _, _ => false

/-- A value lies within a clamp's limits. -/
def Clamp.covers (k : Clamp) (v : Half) : Prop := k.lo.toInt ≤ v.toInt ∧ v.toInt ≤ k.hi.toInt

/-- A quest record is legal: stage within the final stage, every clamped counter and its initial value within the
clamp, and one of the seven pairings (R60, R61, R83, R185). -/
def Quest.sound (x : Quest) : Prop :=
  x.stage.val ≤ x.definition.finalStage.val ∧ x.reasonFits = true ∧
  ∀ (c : Fin 4) (k : Clamp), (x.definition.counters[c]).clamp = some k →
    k.covers (x.definition.counters[c]).initial ∧ k.covers x.counters[c]

/-- The quests, timers and expiry list agree: only an ACTIVE quest has a running timer, and the list holds at most one
entry per quest, only for an ACTIVE quest with its timer stopped (R61, R78). -/
def State.questsSound (s : State) : Prop :=
  (∀ q, (s.quest q).sound) ∧
  (∀ q : Fin 16, s.timers[q].running = true → (s.quest q).state = .active) ∧
  s.engine.expiry.Nodup ∧
  ∀ q ∈ s.engine.expiry, (s.quest q).state = .active ∧ s.timers[q].running = false

/-- A presence record is legal for its map record: EXCLUDED exactly when the map says so, an ASSIGN owed only to a
PRESENT position, the counts within their limits, an ABSENT position at three misses and an UNKNOWN one below
(R9, R10, R13). -/
def PresenceRec.soundFor (r : PresenceRec) (m : TileRec) : Prop :=
  (r.state = .excluded ↔ m.excluded = true) ∧ (r.assign = true → r.state = .present) ∧ r.misses ≤ 3 ∧
  r.taken ≤ 4 ∧ (r.state = .absent → r.misses = 3) ∧ (r.state = .unknown → r.misses < 3)

/-- Every presence record is legal (R9). -/
def State.presenceSound (s : State) : Prop := ∀ i p, (s.presence i p).soundFor (s.mapRec i p)

/-- The error counts of rule memory are within their limits and a pending write-back is consistent (R146, R149). -/
def State.memorySound (s : State) : Prop :=
  s.memory.corrected ≤ 65535 ∧ s.memory.uncorrectable ≤ 255 ∧
  ∀ w, s.memory.writeBack = some w → readOutcome w.entry = .clean

/-- A frame in transmission on UPTX is the frame of the queue entry or reply it was built from, which still stands
where it stood (R161, R174). -/
def State.transmissionSound (s : State) : Prop :=
  (∀ line, s.uplink.tx = some ⟨.reply, line⟩ → ∃ r, s.handler = .sending r ∧ line = replyLine r) ∧
  (∀ r, s.handler = .sending r → s.uplink.tx = some ⟨.reply, replyLine r⟩) ∧
  (∀ line, s.uplink.tx = some ⟨.quest true, line⟩ → ∃ n rest, s.notices.quests = n :: rest ∧ line = questLine n) ∧
  (∀ line, s.uplink.tx = some ⟨.event true, line⟩ → ∃ e rest, s.notices.events = e :: rest ∧ line = eventLine e)

/-- An effect frame on a pair is the frame of the entry at the head of the arm's queue, as long as that entry stands
(R56, R57). -/
def Arm.effectSound (x : Arm) : Prop :=
  ∀ frame, x.line = .effect frame true → ∃ e rest, x.effects = e :: rest ∧ frame = effectFrame e

/-! ### The values after a reset -/

/-- One arm controller at its power-on values (R9, R20, R48, R57). -/
def Arm.atPowerOn (x : Arm) : Prop :=
  x.phase = .off ∧ x.counter = 0 ∧ x.position = 0 ∧ x.line = .free ∧ x.alternation = .poll ∧
  x.record = ⟨false, false, false⟩ ∧ x.framing = 0 ∧ x.check = 0 ∧ x.shape = 0 ∧ x.stray = 0 ∧ x.doze = false ∧
  x.startMark = none ∧ (∀ p : Fin 32, x.presence[p] = ⟨.excluded, 0, true, 0, false⟩) ∧ x.fifo = [] ∧ x.effects = []

/-- The engine at its power-on values (R60, R61, R78, R90, R96, R107, R121). -/
def Engine.atPowerOn (g : Engine) : Prop :=
  g.mode = .run ∧ g.inFlight = none ∧ g.lastServed = .b ∧ g.inject = none ∧ g.seatCount = 1 ∧ g.turn = 0 ∧
  g.highMark = 12 ∧ g.unclaimedEcho = false ∧ g.scrub = true ∧ g.expiry = [] ∧
  (∀ q : Fin 16, (g.quests[q]).state = .idle ∧ (g.quests[q]).stage = 0 ∧ (g.quests[q]).endReason = .none ∧
    (g.quests[q]).flags = ⟨false, false, false, false, false⟩ ∧
    (g.quests[q]).definition.finalStage = 0 ∧ (g.quests[q]).definition.prerequisite = none ∧
    (g.quests[q]).definition.owner = none ∧ (g.quests[q]).definition.onTimeout = .fail ∧
    (g.quests[q]).definition.startTimer = none ∧
    ∀ c : Fin 4, (g.quests[q]).counters[c] = 0 ∧ (g.quests[q]).definition.counters[c] = ⟨0, none⟩) ∧
  (∀ n : Fin 6, (g.scores[n]).value = 0 ∧ (g.scores[n]).saturated = false) ∧ ∀ i : Fin 256, g.rules[i] = .empty

/-- Every block at its power-on values, with these alerts queued and these flow bytes owed (R2, R74, R140, R146, R148,
R154, R173, R174). -/
def State.atPowerOn (s : State) (alerts : List AlertEntry) (owed : List FlowByte) : Prop :=
  (∀ i, (s.arm i).atPowerOn) ∧ (∀ k : Fin 64, s.tileMap[k] = ⟨true, .pad, 0, false⟩) ∧ s.engine.atPowerOn ∧
  (∀ q : Fin 16, s.timers[q] = ⟨false, 0⟩) ∧ (∀ i : Fin 256, s.memory.entries[i] = 0) ∧ s.memory.capture = none ∧
  s.memory.corrected = 0 ∧ s.memory.uncorrectable = 0 ∧ s.memory.scrubIndex = 0 ∧ s.memory.writeBack = none ∧
  s.notices = ⟨alerts, [], []⟩ ∧ s.uplink.rx = .idle ∧ s.uplink.frames = [] ∧ s.uplink.part = [] ∧
  s.uplink.escape = false ∧ s.uplink.receiveHeld = false ∧ s.uplink.hostHeld = false ∧ s.uplink.flowOwed = owed ∧
  s.uplink.tx = none ∧ s.handler = .idle

/-! ### When a command has its effect -/

/-- RSTN is high, the engine is idle, and this management request comes up for service: it is the pending item, or the
free handler has just taken it with no complete frame waiting ahead (R122, R174; log 3). -/
def State.serving (s : State) (kind : Byte) (body : List Byte) : Prop :=
  s.rstnLow = false ∧ s.engine.inFlight = none ∧
    (s.handler = .pending kind body ∨ (s.handler = .idle ∧ s.uplink.frames = []))

/-- RSTN is high and the request handler is free, with no complete frame waiting ahead (R174; log 3). -/
def State.handlerIdle (s : State) : Prop := s.rstnLow = false ∧ s.handler = .idle ∧ s.uplink.frames = []

/-- The arbiter may take an event item: RSTN is high, no item is in flight, no management item is pending, the engine
is in RUN, and the admission test passes (R122, R123, R126). -/
def State.eventsMayStart (s : State) : Prop :=
  s.rstnLow = false ∧ s.engine.inFlight = none ∧ (∀ kind body, s.handler ≠ .pending kind body) ∧ s.engine.mode = .run ∧
  s.notices.quests.length + 16 ≤ 32 ∧ s.notices.events.length + 1 ≤ 24 ∧
  ∀ i, (s.arm i).active = true → (s.arm i).effects.length + 16 ≤ 32

/-- The arm's pass visits this position: every UNKNOWN one, in RUNNING also every PRESENT one, and in RUNNING with the
rotation counter at 0 also every ABSENT and MISMATCH one (R12, R27). -/
def State.visited (s : State) (i : ArmId) (p : Fin 32) : Prop :=
  (s.presence i p).state = .unknown ∨
    ((s.arm i).phase = .running ∧ ((s.presence i p).state = .present ∨
      ((s.arm i).counter = 0 ∧ ((s.presence i p).state = .absent ∨ (s.presence i p).state = .mismatch))))

/-- The next frame of the arm is no poll, whether or not a poll is ready: an ASSIGN is owed, or an effect entry waits and
the alternation memory says POLL (R25). -/
def State.frameGoesFirst (s : State) (i : ArmId) : Prop :=
  (∃ p, (s.presence i p).assign = true) ∨ ((s.arm i).effects ≠ [] ∧ (s.arm i).alternation = .poll)

/-- Behind the visit to position `p` an ASSIGN or an effect frame goes before a position that is passed over: an ASSIGN is
owed to `p` (`owed`) or to another position, or an effect entry waits and the alternation memory says POLL (R25, R27;
log 7). -/
def State.firstBehind (s : State) (i : ArmId) (p : Fin 32) (owed : Bool) : Prop :=
  owed = true ∨ (∃ q, q ≠ p ∧ (s.presence i q).assign = true) ∨
    ((s.arm i).effects ≠ [] ∧ (s.arm i).alternation = .poll)

/-- The end of the visit to position `p` does not fault the arm, with this rotation record behind its last poll and an
ASSIGN owed to `p` or not: the arm is enumerating, or the fault test fails, or the rotation does not end there, because a
later position is visited or an ASSIGN or an effect frame goes first (R27, R38, R39; log 7). -/
def State.goesOnBehind (s : State) (i : ArmId) (p : Fin 32) (record : RotationRecord) (owed : Bool) : Prop :=
  (s.arm i).phase = .enumerating ∨
    ¬ (record.presentAtStart = true ∧ record.completed = true ∧ record.answered = false) ∨
    (∃ q, p < q ∧ s.visited i q) ∨ (p.val < 31 ∧ s.firstBehind i p owed)

/-- An arm `x` as the fault leaves it: the presence records reset, line and effect queue released, rotation counter, error
counts, FIFO and doze flag kept (R9, R20, R39). -/
def State.faultedArm (s : State) (i : ArmId) (x : Arm) : Arm :=
  { x with
    phase := .faulted, position := 0, pass := .reaching, rotationPolled := false, line := .free, alternation := .poll,
    record := ⟨false, false, false⟩, startMark := none, effects := [],
    presence := Vector.ofFn fun q => ⟨if (s.mapRec i q).excluded then .excluded else .unknown, 0, true, 0, false⟩ }

/-- The visit to position `p` is over: the pass visits it no longer, and where the next position is visited, its visit
has begun (R27, R28). -/
def State.visitOver (s t : State) (i : ArmId) (p : Fin 32) : Prop :=
  (t.arm i).pass ≠ .visiting true ∧
    ∀ q, q.val = p.val + 1 → s.visited i q → (t.arm i).position = q ∧ (t.arm i).pass = .visiting false

/-- With no position left to visit behind `p`, but one to pass over, and an ASSIGN or effect frame to go first, the
rotation waits behind `p` for that frame, with this rotation record (R25, R27, R38; log 7). -/
def State.waitsBehind (s t : State) (i : ArmId) (p : Fin 32) (record : RotationRecord) (owed : Bool) : Prop :=
  p.val < 31 → s.firstBehind i p owed → (∀ q, p < q → ¬ s.visited i q) →
    (t.arm i).phase = (s.arm i).phase ∧ (t.arm i).pass = .reaching ∧ (t.arm i).position.val = p.val + 1 ∧
    (t.arm i).record = record

/-- The presence records of the positions other than `p` are kept, but that a visit which has begun has taken no event
yet (R28). -/
def State.othersKept (s t : State) (i : ArmId) (p : Fin 32) : Prop :=
  ∀ q, q ≠ p → t.presence i q =
    if (t.arm i).pass = .visiting false ∧ (t.arm i).position = q then { s.presence i q with taken := 0 }
    else s.presence i q

/-- The arm RUNNING with this rotation counter, at the start of a rotation: an empty rotation record but for PRESENT at
start, and the start marked (R27, R38, R42). -/
def State.rotating (s : State) (i : ArmId) (counter : Fin 16) (position : Fin 32) (pass : Pass)
    (presence : Vector PresenceRec 32) : State :=
  s.withArm i { s.arm i with
    phase := .running, counter := counter, position := position, pass := pass, rotationPolled := false,
    record := ⟨(List.finRange 32).any fun q => (s.presence i q).state == .present, false, false⟩,
    startMark := some ⟨false, false⟩, presence := presence }

/-- The presence records with the events taken at one position at 0, as at the beginning of a visit there (R28). -/
def State.visitBegun (s : State) (i : ArmId) (p : Fin 32) : Vector PresenceRec 32 :=
  (s.arm i).presence.set p { s.presence i p with taken := 0 }

/-- The arm RUNNING with this rotation counter (R27, R34). -/
def State.inRotation (s : State) (i : ArmId) (counter : Fin 16) : State :=
  s.withArm i { s.arm i with phase := .running, counter := counter }

/-- The wait for the next rotation is not over: the 250 ms from the last start with the doze flag on, else the 10 ms from
it when that rotation sent no poll (R27, R42). -/
def State.waitsToStart (s : State) (i : ArmId) : Prop :=
  ∃ m, (s.arm i).startMark = some m ∧
    (((s.arm i).doze = true ∧ m.dozeOver = false) ∨
      ((s.arm i).doze = false ∧ (s.arm i).rotationPolled = false ∧ m.emptyOver = false))

/-- In `t` the rotation of `s` with this counter has started and stands at its first visit. Where it has nothing to visit it
has ended at once, its counter has advanced, and the next one waits. Where another frame goes first (`held`), a position 0
that is passed over waits for that frame (R27, R34, R38, R42; log 7). -/
def State.rotationBegun (s t : State) (i : ArmId) (counter : Fin 16) (held : Prop) : Prop :=
  (∀ p, (s.inRotation i counter).visited i p → (∀ q, q < p → ¬ (s.inRotation i counter).visited i q) →
    ¬ held ∨ p.val = 0 → t = s.rotating i counter p (.visiting false) (s.visitBegun i p)) ∧
  (held → ¬ (s.inRotation i counter).visited i 0 → t = s.rotating i counter 0 .reaching (s.arm i).presence) ∧
  (¬ held → (∀ q, ¬ (s.inRotation i counter).visited i q) → ∀ next : Fin 16, next.val = (counter.val + 1) % 16 →
    t = s.rotating i next 0 .between (s.arm i).presence)

/-- No position from the pass's own on is left to visit, or the visit to position 31 has ended (R27, R34). -/
def State.nothingLeft (s : State) (i : ArmId) : Prop :=
  (s.arm i).pass = .ended ∨ ((s.arm i).pass = .reaching ∧ ∀ q, (s.arm i).position ≤ q → ¬ s.visited i q)

/-- The arm `x` has left the visit to position `p`, its pair free: the pass stands at the next position, or has ended
behind position 31 (R27, R28). -/
def State.leftBehind (s : State) (i : ArmId) (p : Fin 32) (x : Arm) : State :=
  s.withArm i { x with
    line := .free, position := if h : p.val + 1 < 32 then ⟨p.val + 1, h⟩ else p,
    pass := if p.val < 31 then .reaching else .ended }

/-- The pair of an arm is free to send on: nothing is in transmission and no poll awaits an answer, be it that the window
of a poll that a TILE-WRITE ended is still open (R7, R21; log 8). -/
def State.pairFree (s : State) (i : ArmId) : Prop := (s.arm i).line = .free ∨ (s.arm i).line = .lapsed

/-- The rotation stands where it is until a frame is sent: at a visit, between rotations with the wait not over, or at a
position to be passed over with another frame to go first (R25, R27, R42; log 7). -/
def State.rotationStands (s : State) (i : ArmId) : Prop :=
  (∃ polled, (s.arm i).pass = .visiting polled) ∨
    ((s.arm i).phase = .running ∧ (s.arm i).pass = .between ∧ s.waitsToStart i) ∨
    ((s.arm i).pass = .reaching ∧ s.frameGoesFirst i ∧ ¬ s.visited i (s.arm i).position)

/-- The receive-held mark and the flow bytes owed, after the buffer count has risen to `count`: at 384 or more with the
mark clear the mark is set and a HOLD is owed behind the others (R170). -/
def marksAfterRise (count : Nat) (marks : Bool × List FlowByte) : Bool × List FlowByte :=
  if 384 ≤ count ∧ marks.1 = false then (true, marks.2 ++ [.hold]) else marks

/-- The receive-held mark and the flow bytes owed, after the buffer count has fallen to `count`: at 128 or less with the
mark set the mark is cleared and a GO is owed behind the others (R170). -/
def marksAfterFall (count : Nat) (marks : Bool × List FlowByte) : Bool × List FlowByte :=
  if count ≤ 128 ∧ marks.1 = true then (false, marks.2 ++ [.go]) else marks

/-- The receive-held mark and the flow bytes owed (R170). -/
def Uplink.marks (u : Uplink) : Bool × List FlowByte := (u.receiveHeld, u.flowOwed)

/-- `v` is `u` but for its receive-held mark and the flow bytes owed, which are these (R170). -/
def Uplink.becomes (u v : Uplink) (marks : Bool × List FlowByte) : Prop :=
  v = { u with receiveHeld := marks.1, flowOwed := marks.2 }

/-- The frame in progress has been garbled: its bytes have left the buffer, one alert is raised, the receiver is in `next`,
and from the marks `before` the fall of the count has had its effect on them (R167, R170). -/
def State.garbledTo (s t : State) (next : RxState) (before : Bool × List FlowByte) : Prop :=
  t = (s.withUplink t.uplink).raise .uplinkGarbled ∧
    Uplink.becomes { s.uplink with rx := next, escape := false, part := [] } t.uplink
      (marksAfterFall (s.uplink.frames.map List.length).sum before)

/-- The state with this reply made and pending (R174). -/
def State.replying (s : State) (kind : Byte) (status : Status) (content : List Byte) : State :=
  s.withHandler (.reply ⟨kind, status, content⟩)

/-- The conditions under which R62 does not refuse a QUEST-WRITE body INVALID. -/
def questWriteLegal (b : List Byte) : Prop :=
  b.length = 32 ∧ (byteAt b 0).toNat ≤ 15 ∧ (byteAt b 1).toNat ≤ 15 ∧
  (byteAt b 2 = 255 ∨ ((byteAt b 2).toNat ≤ 15 ∧ byteAt b 2 ≠ byteAt b 0)) ∧
  (byteAt b 3 = 255 ∨ (byteAt b 3).toNat ≤ 5) ∧ (byteAt b 4 = 0 ∨ byteAt b 4 = 1) ∧
  ((byteAt b 5).getLsbD 0 = true → halfAt b 6 ≠ 0) ∧
  ∀ c : Fin 4, (byteAt b 5).getLsbD (4 + c.val) = true →
    (halfAt b (10 + 6 * c.val)).toInt ≤ (halfAt b (12 + 6 * c.val)).toInt ∧
    (halfAt b (10 + 6 * c.val)).toInt ≤ (halfAt b (8 + 6 * c.val)).toInt ∧
    (halfAt b (8 + 6 * c.val)).toInt ≤ (halfAt b (12 + 6 * c.val)).toInt

/-- The definition that a QUEST-WRITE body carries, field by field (chapter 11 "Quest records"). -/
def QuestDef.isCarriedBy (d : QuestDef) (b : List Byte) : Prop :=
  d.finalStage.val = (byteAt b 1).toNat ∧
  d.prerequisite.map Fin.val = (if byteAt b 2 = 255 then none else some (byteAt b 2).toNat) ∧
  d.owner.map Fin.val = (if byteAt b 3 = 255 then none else some (byteAt b 3).toNat) ∧
  (d.onTimeout = .event ↔ byteAt b 4 = 1) ∧
  d.startTimer = (if (byteAt b 5).getLsbD 0 then some (halfAt b 6) else none) ∧
  ∀ c : Fin 4, d.counters[c] = ⟨halfAt b (8 + 6 * c.val),
    if (byteAt b 5).getLsbD (4 + c.val) then some ⟨halfAt b (10 + 6 * c.val), halfAt b (12 + 6 * c.val)⟩ else none⟩

/-- The address bytes of an EFFECT-SEND body; for ALL the value is not read (R55). -/
def EffectAddr.writtenAs (addr : EffectAddr) (mode value : Byte) : Prop :=
  match addr with
  | .tile p => mode = 1 ∧ value = byteOf p.val
  | .zone z => mode = 2 ∧ value = byteOf z.val
  | .all => mode = 3

/-- The effect bytes of an EFFECT-SEND body (R55). -/
def Effect.bytes (e : Effect) : List Byte :=
  match e with
  | .light p => [1, p]
  | .sound c => [2, c]
  | .dark => [3]

/-- A body is the EFFECT-SEND of an entry to an arm (R55). -/
def effectSendOf (i : ArmId) (e : EffectEntry) (body : List Byte) : Prop :=
  ∃ mode value, e.addr.writtenAs mode value ∧ body = armCode i :: mode :: value :: e.effect.bytes

/-! ### Which rule records are let through (R65, R102 to R104) -/

/-- The conditions on an action's four bytes, kind, condition and selector, and value, under which R104 does not refuse
it. -/
def actionLegal (kind cs hi lo : Byte) : Prop :=
  1 ≤ kind.toNat ∧ kind.toNat ≤ 26 ∧
  (kind.toNat ≤ 8 → cs.toNat % 16 ≤ 7 ∧ (4 ≤ cs.toNat % 16 → 256 * hi.toNat + lo.toNat ≤ 3)) ∧
  (kind.toNat = 9 → cs.toNat % 16 ≤ 3) ∧
  (kind.toNat = 10 ∨ kind.toNat = 11 → cs.toNat % 16 ≤ 8 ∧ 256 * hi.toNat + lo.toNat ≤ 9999) ∧
  (kind.toNat = 13 → 256 * hi.toNat + lo.toNat ≤ 15) ∧
  (kind.toNat = 17 → 256 * hi.toNat + lo.toNat ≠ 0) ∧
  (19 ≤ kind.toNat → kind.toNat ≤ 21 →
    cs.toNat % 16 ≤ 3 ∧ (cs.toNat % 16 = 1 → hi.toNat ≤ 63) ∧ (cs.toNat % 16 = 2 → hi.toNat ≤ 15)) ∧
  (kind.toNat = 23 → cs.toNat % 16 ≤ 5) ∧
  (24 ≤ kind.toNat → 256 * hi.toNat + lo.toNat ≤ 255)

/-- The first two bytes of an action make it a home-quest action: a counter, SET-IF, stage, QUEST-COMPLETE, QUEST-FAIL
or timer kind, or a condition other than ALWAYS (R65, R102). -/
def actionNeedsHome (kind cs : Byte) : Prop :=
  kind.toNat ≤ 9 ∨ kind.toNat = 12 ∨ kind.toNat = 13 ∨ (15 ≤ kind.toNat ∧ kind.toNat ≤ 18) ∨ 16 ≤ cs.toNat

/-- The conditions on a record's 28 bytes under which R104 does not refuse it. -/
def recordLegal (b : Nat → Byte) : Prop :=
  1 ≤ (b 0).toNat ∧ (b 0).toNat ≤ 7 ∧
  (b 2).toNat / 16 ≤ 4 ∧ ((b 2).toNat / 16 = 1 → (b 3).toNat ≤ 15) ∧ ((b 2).toNat / 16 = 2 → (b 3).toNat ≤ 63) ∧
  ((b 2).toNat / 16 = 3 → (b 3).toNat ≤ 15) ∧
  (b 2).toNat % 16 ≤ 4 ∧ ((b 2).toNat % 16 = 1 → (b 4).toNat ≤ 63) ∧ ((b 2).toNat % 16 = 2 → (b 4).toNat ≤ 5) ∧
  ((b 5).toNat ≤ 15 ∨ b 5 = 255) ∧ ((b 6).toNat ≤ 15 ∨ b 6 = 255) ∧ ((b 7).toNat ≤ 15 ∨ b 7 = 255) ∧
  (b 6 = 255 → b 7 = 255) ∧
  (b 8).toNat / 16 ≤ 3 ∧ ((b 8).toNat / 16 = 1 → (b 8).toNat % 16 ≤ 3) ∧ ((b 8).toNat / 16 = 2 → (b 8).toNat % 16 ≤ 5) ∧
  (∀ n, n ≤ (b 1).toNat % 4 → actionLegal (b (12 + 4 * n)) (b (13 + 4 * n)) (b (14 + 4 * n)) (b (15 + 4 * n))) ∧
  ((b 0).toNat ≤ 5 → (b 2).toNat / 16 ≤ 2) ∧ ((b 0).toNat = 6 → (b 2).toNat / 16 = 0 ∨ (b 2).toNat / 16 = 3) ∧
  ((b 0).toNat = 7 → (b 2).toNat / 16 = 0 ∨ (b 2).toNat / 16 = 4) ∧
  (b 5 = 255 → (b 8).toNat / 16 ≠ 1 ∧
    ∀ n, n ≤ (b 1).toNat % 4 → ¬ actionNeedsHome (b (12 + 4 * n)) (b (13 + 4 * n)))

/-! ### What a rule record's bytes say (R101 to R103) -/

/-- The seat selector with this selector code (R102). -/
def SeatSelector.spelledBy (sel : SeatSelector) (code : Nat) : Prop :=
  match sel with
  | .seat n => code = n.val
  | .turn => code = 6
  | .pieceOwner => code = 7
  | .questOwner => code = 8

/-- The effect with this kind code and low value byte (R102, R103). -/
def Effect.spelledBy (e : Effect) (kind : Nat) (lo : Byte) : Prop :=
  match e with
  | .light p => kind = 19 ∧ p = lo
  | .sound c => kind = 20 ∧ c = lo
  | .dark => kind = 21

/-- The effect target with this selector code and high value byte (R103). -/
def EffectTarget.spelledBy (target : EffectTarget) (code : Nat) (hi : Byte) : Prop :=
  match target with
  | .source => code = 0
  | .tile k => code = 1 ∧ k.val = hi.toNat
  | .zone z => code = 2 ∧ z.val = hi.toNat
  | .all => code = 3

/-- The action kind with this kind code, selector and value bytes, in the fields its kind reads (R102, R103). -/
def ActionKind.spelledBy (a : ActionKind) (kind selector : Nat) (hi lo : Byte) : Prop :=
  match a with
  | .count op c o =>
    (op, kind) ∈ [(CountOp.load, 1), (.add, 2), (.sub, 3), (.and, 4), (.or, 5), (.xor, 6), (.cmp, 7), (.test, 8)] ∧
      ((∃ v, o = .constant v ∧ selector = c.val ∧ v.toNat = 256 * hi.toNat + lo.toNat) ∨
        ∃ j, o = .counter j ∧ selector = c.val + 4 ∧ j.val = 256 * hi.toNat + lo.toNat)
  | .setIf c => kind = 9 ∧ selector = c.val
  | .scoreAdd sel n => kind = 10 ∧ sel.spelledBy selector ∧ n.val = 256 * hi.toNat + lo.toNat
  | .scoreSub sel n => kind = 11 ∧ sel.spelledBy selector ∧ n.val = 256 * hi.toNat + lo.toNat
  | .stageAdvance => kind = 12
  | .stageSet st => kind = 13 ∧ st.val = 256 * hi.toNat + lo.toNat
  | .questStart k => kind = 14 ∧ selector = k.val
  | .questComplete => kind = 15
  | .questFail => kind = 16
  | .timerStart ticks => kind = 17 ∧ ticks.toNat = 256 * hi.toNat + lo.toNat
  | .timerStop => kind = 18
  | .effect e target => e.spelledBy kind lo ∧ target.spelledBy selector hi
  | .turnNext => kind = 22
  | .turnSet n => kind = 23 ∧ selector = n.val
  | .signal code => kind = 24 ∧ code.toNat = 256 * hi.toNat + lo.toNat
  | .ruleEnable i => kind = 25 ∧ i.val = 256 * hi.toNat + lo.toNat
  | .ruleDisable i => kind = 26 ∧ i.val = 256 * hi.toNat + lo.toNat

/-- The action whose four bytes these are (R101, chapter 11 "The rule record"). -/
def Action.spelledBy (a : Action) (kind cs hi lo : Byte) : Prop :=
  a.condition.val = cs.toNat / 16 ∧ a.kind.spelledBy kind.toNat (cs.toNat % 16) hi lo

/-- The place whose mode and value bytes these are (R101). -/
def Place.spelledBy (place : Place) (mode : Nat) (value : Byte) : Prop :=
  match place with
  | .any => mode = 0
  | .zone z => mode = 1 ∧ z.val = value.toNat
  | .tile k => mode = 2 ∧ k.val = value.toNat
  | .quest q => mode = 3 ∧ q.val = value.toNat
  | .code c => mode = 4 ∧ c = value

/-- The piece filter whose mode and value bytes these are (R101). -/
def PieceFilter.spelledBy (filter : PieceFilter) (mode : Nat) (value : Byte) : Prop :=
  match filter with
  | .any => mode = 0
  | .piece id => mode = 1 ∧ id.val = value.toNat
  | .seat n => mode = 2 ∧ n.val = value.toNat
  | .turnSeat => mode = 3
  | .neutral => mode = 4

/-- The guard source whose code and number these are (R89, R101). -/
def GuardSource.spelledBy (source : GuardSource) (code number : Nat) : Prop :=
  match source with
  | .none => code = 0
  | .counter c => code = 1 ∧ c.val = number
  | .seatScore n => code = 2 ∧ n.val = number
  | .turnScore => code = 3

/-- A number from a byte in which 255 says none or any. -/
def numberOrNone (b : Byte) : Option Nat := if b = 255 then none else some b.toNat

/-- The record whose bytes these are, field by field (R101 to R103, chapter 11 "The rule record"). -/
def RuleRecord.spelledBy (r : RuleRecord) (b : Nat → Byte) : Prop :=
  (r.trigger, (b 0).toNat) ∈ [(Trigger.press, 1), (.release, 2), (.place, 3), (.lift, 4), (.tileAny, 5), (.timer, 6),
    (.injected, 7)] ∧
  r.place.spelledBy ((b 2).toNat / 16) (b 3) ∧ r.piece.spelledBy ((b 2).toNat % 16) (b 4) ∧
  r.home.map Fin.val = numberOrNone (b 5) ∧ r.gate.map (·.quest.val) = numberOrNone (b 6) ∧
  (∀ g, r.gate = some g → g.stage.map Fin.val = numberOrNone (b 7)) ∧
  r.guard.source.spelledBy ((b 8).toNat / 16) ((b 8).toNat % 16) ∧ r.guard.condition.val = (b 9).toNat % 16 ∧
  r.guard.operand.toNat = 256 * (b 10).toNat + (b 11).toNat ∧
  r.chain = (b 1).getLsbD 4 ∧ r.singleShot = (b 1).getLsbD 5 ∧ r.startDisabled = (b 1).getLsbD 6 ∧
  r.actions.length = (b 1).toNat % 4 + 1 ∧
  ∀ (n : Nat) (a : Action), r.actions[n]? = some a →
    a.spelledBy (b (12 + 4 * n)) (b (13 + 4 * n)) (b (14 + 4 * n)) (b (15 + 4 * n))

/-! ### The course of an event item (R110 to R116, R128 to R130) -/

/-- The take of an event item that runs a scan: the command, the event, and the state right after the take, with the
item in flight and the steps of other blocks that fall inside it taken out of the list (R47, R124, R128, R129; log 4). -/
inductive State.Takes (s : State) : Instr → Event → State → Prop where
  | tile (i : ArmId) (r : EventRecord) (rest : List EventRecord) : s.engine.expiry = [] → s.engine.inject = none →
      (s.arm i).fifo = r :: rest → (i ≠ s.engine.lastServed ∨ (s.arm (ArmId.other i)).fifo = []) →
      s.Takes .tileEventTake (.tile r) (((s.withArm i { s.arm i with fifo := rest }).withEngine { s.engine with
        lastServed := i, inFlight := some (.event (.tile r)) }).withMeanwhile s.meanwhile.tail)
  | timer (q : Fin 16) (rest : List (Fin 16)) : s.engine.expiry = q :: rest →
      (s.quest q).definition.onTimeout = .event →
      s.Takes .expiryTake (.timer q) ((s.withEngine { s.engine with
        expiry := rest, inFlight := some (.expiry q) }).withMeanwhile s.meanwhile.tail)
  | injected (c : Byte) : s.engine.expiry = [] → s.engine.inject = some c →
      s.Takes .injectTake (.injected c) ((s.withEngine { s.engine with
        inject := none, inFlight := some (.event (.injected c)) }).withMeanwhile s.meanwhile.tail)

/-- The scan's checked fetch of an ENABLED rule's entry: the state after it and the record it gives, if any. One changed
bit is corrected, counted, captured as found by SCAN and written back; two changed bits are counted, captured and
alerted, and quarantine the rule (R110, R143 to R146). -/
inductive Fetches (i : Fin 256) (s : State) : State → Option (BitVec 224) → Prop where
  | clean : readOutcome s.memory.entries[i] = .clean → Fetches i s s (some (entryData s.memory.entries[i]))
  | corrected (p : Fin 233) (data : BitVec 224) : readOutcome s.memory.entries[i] = .oneChanged p →
      data = entryData (flipBit s.memory.entries[i] p) →
      Fetches i s (s.withMemory { s.memory with
        entries := s.memory.entries.set i (encodeEntry data),
        corrected := min (s.memory.corrected + 1) (max s.memory.corrected 65535),
        capture := some (s.memory.capture.getD ⟨.corrected p, i, .scan⟩),
        writeBack := s.memory.writeBack.filter fun w => w.rule ≠ i }) (some data)
  | lost : readOutcome s.memory.entries[i] = .twoChanged →
      Fetches i s (((s.withMemory { s.memory with
        uncorrectable := min (s.memory.uncorrectable + 1) (max s.memory.uncorrectable 255),
        capture := some (s.memory.capture.getD ⟨.uncorrectable, i, .scan⟩) }).withRule i .quarantined).raise
          (.ruleLost i)) none

/-- The course of a scan from index `k` with `n` rules fired so far, from state `s` to state `t` with `m` rules fired in
all (R110, R114, R116): a rule that is not ENABLED when the scan comes to it is passed over without a fetch; one whose
fetched record is lost, would be refused by R104, or does not match is passed over with the fetch's effects; one that
matches fires, and the scan goes on past it exactly when it chains and fewer than four have fired. What other blocks do
before the scan comes to an index has been done by then (R130). That a record that R104 would refuse does not match is
R110's of one that RAW-WRITE stored, and the model's choice of one that three or more upsets have made so (DESIGN CHOICE,
log 34); that nothing falls between the read of a rule's state and the fetch is another (log 4). -/
inductive Scans (asides : List Aside) (ev : Event) : (k n : Nat) → (s t : State) → (m : Nat) → Prop where
  | done (n : Nat) (s : State) : Scans asides ev 256 n s s n
  | passed (i : Fin 256) (n m : Nat) (s now t : State) : now = during asides (.fetch i) s → now.rule i ≠ .enabled →
      Scans asides ev (i.val + 1) n now t m → Scans asides ev i.val n s t m
  | unmatched (i : Fin 256) (n m : Nat) (s now u t : State) (data : Option (BitVec 224)) :
      now = during asides (.fetch i) s → now.rule i = .enabled → Fetches i now u data →
      (∀ r, data.bind decodeRule = some r → ruleMatches r ev u = false) →
      Scans asides ev (i.val + 1) n u t m → Scans asides ev i.val n s t m
  | chained (i : Fin 256) (n m : Nat) (s now u fired t : State) (data : BitVec 224) (r : RuleRecord) :
      now = during asides (.fetch i) s → now.rule i = .enabled → Fetches i now u (some data) →
      decodeRule data = some r → ruleMatches r ev u = true →
      fired = runActions asides ev i r.home 1 (if r.singleShot then u.withRule i .spent else u) r.actions →
      r.chain = true → n + 1 < 4 → Scans asides ev (i.val + 1) (n + 1) fired t m → Scans asides ev i.val n s t m
  | ended (i : Fin 256) (n : Nat) (s now u fired : State) (data : BitVec 224) (r : RuleRecord) :
      now = during asides (.fetch i) s → now.rule i = .enabled → Fetches i now u (some data) →
      decodeRule data = some r → ruleMatches r ev u = true →
      fired = runActions asides ev i r.home 1 (if r.singleShot then u.withRule i .spent else u) r.actions →
      (r.chain = false ∨ 4 ≤ n + 1) → Scans asides ev i.val n s fired (n + 1)

/-! ### Frames as the other side builds them -/

/-- The kind nibble and body of an upstream answer (R180). -/
def Answer.code (ans : Answer) : Byte × List Byte :=
  match ans with
  | .idle => (0x80, [])
  | .hello k => (0x90, [tileKindCode k])
  | .event .press _ _ => (0xA0, [])
  | .event .release _ _ => (0xB0, [])
  | .event (.place p) _ _ => (0xC0, [byteOf p.id.val, pieceSeatCode p.seat])
  | .event (.lift p) _ _ => (0xD0, [byteOf p.id.val, pieceSeatCode p.seat])

/-- The toggle and more bits of an upstream answer (R179). -/
def Answer.bits (ans : Answer) : Byte :=
  match ans with
  | .event _ toggle more => (if more then 4 else 0) ||| (if toggle then 1 else 0)
  | .idle => 0
  | .hello _ => 0

/-- The bytes of the answer that a tile at a position sends, check byte last (R179, R180). -/
def Answer.frame (ans : Answer) (position : Fin 32) : List Byte :=
  armFrame (ans.code.1 ||| ans.bits) (byteOf position.val) ans.code.2

/-- Bytes received with every stop bit good. -/
def goodBytes (bytes : List Byte) : List LineByte := bytes.map fun b => ⟨b, true⟩

/-- Bytes that arrive one after another on UPRX, as commands. -/
def arriving (bytes : List Byte) : List Instr := bytes.map fun b => .uplinkByteReceived b true

/-- The step commands that pass while RSTN is low without any effect: all but power-on, the RSTN line itself and an
upset (R173, log 11). -/
def Instr.waitsForRstn (c : Instr) : Bool :=
  match c with
  | .powerOn => false
  | .resetLine => false
  | .rstnRelease => false
  | .bitUpset _ _ => false
  | _ => true

/-- The commands of one arm's pair. -/
def Instr.armOf (c : Instr) : Option ArmId :=
  match c with
  | .pollSend i => some i
  | .effectFrameSend i => some i
  | .assignSend i => some i
  | .effectFrameEnd i => some i
  | .assignEnd i => some i
  | .pollAnswer i _ => some i
  | .replyWindowClose i => some i
  | .strayFrame i _ => some i
  | .dozeWaitEnd i => some i
  | .emptyRotationWaitEnd i => some i
  | _ => none

end Sys2Proof.Machine
end

