-- ==== Sys2Proof/Certificates/Slice0/Obligations.lean ====
section
/-! DEFINITION. The statements of the model, from the numbered rules of the spec. "log n" names notes/assumptions/n.md:
where a statement rests on a choice of the model, its docstring says so. -/

section

open Sys2Proof Sys2Proof.Machine

/-! ### The whole machine -/

/-- A step runs the command at the front of the queue on the state with the queue's rest; on an empty queue the part
idles (the model's choice, log 1). -/
def Obligations.StepRunsTheFrontCommand : Prop :=
  ∀ s : State,
    (∀ c rest, s.pending = c :: rest → step s = exec c (s.withPending rest)) ∧ (s.pending = [] → step s = .next s)

/-- Every command completes in every state and leaves the queue of waiting commands as it stands: no command stops
the machine (logs 2 and 28). -/
def Obligations.EveryCommandCompletesAndKeepsTheQueue : Prop :=
  ∀ (c : Instr) (s : State), ∃ t, exec c s = .next t ∧ t.pending = s.pending

/-- While RSTN is low, no command but power-on, the RSTN line and an upset of a stored bit changes anything
(R173; that the other blocks stand still as well is the model's reading, log 11). -/
def Obligations.RstnLowHoldsThePart : Prop :=
  ∀ (c : Instr) (s : State), s.rstnLow = true → Instr.waitsForRstn c = true → exec c s = .next s

/-- Power-on, and the release of RSTN after a reset on its line, leave every block at its power-on values with one
STARTED alert of the right cause and one GO byte owed; while RSTN is low the values stand without either (R140, R158,
R173; that RSTN stays high at power-on is log 12, that the alert waits for the release is log 11, that a release while
RSTN is high leaves the state is log 2). -/
def Obligations.ResetsGivePowerOnValues : Prop :=
  ∀ s : State,
    (∃ t, exec .powerOn s = .next t ∧ t.atPowerOn [⟨.started .powerOn, 1⟩] [.go] ∧ t.rstnLow = false) ∧
    (∃ t, exec .resetLine s = .next t ∧ t.atPowerOn [] [] ∧ t.rstnLow = true) ∧
    (s.rstnLow = true →
      ∃ t, exec .rstnRelease s = .next t ∧ t.atPowerOn [⟨.started .resetLine, 1⟩] [.go] ∧ t.rstnLow = false) ∧
    (s.rstnLow = false → exec .rstnRelease s = .next s)

/-- The state after reset meets every soundness predicate. -/
def Obligations.ResetStateIsSound : Prop :=
  State.reset.setupSound ∧ State.reset.alertsSound ∧ State.reset.queuesSound ∧ State.reset.questsSound ∧
  State.reset.presenceSound ∧ State.reset.memorySound ∧ State.reset.transmissionSound ∧
  ∀ i, (State.reset.arm i).effectSound

/-- Every step keeps the turn seat in play and the setup values in range (R96, R100, R136), and every step keeps the
counts of rule memory within their limits and a pending write-back consistent (R144 to R149). -/
def Obligations.SetupAndRuleMemoryStayInRange : Prop :=
  (∀ s t : State, s.setupSound → step s = .next t → t.setupSound) ∧
  (∀ s t : State, s.memorySound → step s = .next t → t.memorySound)

/-- Every step keeps the ALERT queue at 8 entries or fewer, no two equal in kind and subject (R154 to R157). -/
def Obligations.AlertQueueStaysDistinct : Prop :=
  ∀ s t : State, s.alertsSound → step s = .next t → t.alertsSound

/-- Every step keeps every queue and buffer within its capacity, and the effect queue of an arm that is OFF or FAULTED
empty (R26, R45, R57, R58, R116, R126, R127, R169). -/
def Obligations.NoQueueEverOverflows : Prop :=
  ∀ s t : State, s.queuesSound → step s = .next t → t.queuesSound

/-- Every step keeps every quest record, timer and the expiry list legal (R61, R70, R78, R83, R185). -/
def Obligations.QuestsStayLegal : Prop :=
  ∀ s t : State, s.questsSound → step s = .next t → t.questsSound

/-- Every step keeps every presence record legal for its map record (R4 to R16). -/
def Obligations.PresenceFollowsTheMap : Prop :=
  ∀ s t : State, s.presenceSound → step s = .next t → t.presenceSound

/-- Every step keeps this: a reply on UPTX is the one that the handler is sending, a quest notice or an echo there is the
head of its queue, and an effect frame on a pair is the head of its effect queue, unless a GAME-RESET has emptied that
queue meanwhile (R56, R57, R161, R163, R174). An ALERT has left its queue when its frame starts (R161), and a POLL or an
ASSIGN stands in no queue: nothing is said of these three. -/
def Obligations.TransmissionsShowTheHeadOfTheirQueue : Prop :=
  ∀ s t : State, s.transmissionSound → (∀ i, (s.arm i).effectSound) → step s = .next t →
    t.transmissionSound ∧ ∀ i, (t.arm i).effectSound

/-- A command of one arm's pair leaves the other arm as it stands, but for the end of doze (R43), and leaves the tile
map, the engine, the timers, rule memory, the uplink port and the request handler as they stand. -/
def Obligations.ArmCommandsStayOnTheirArm : Prop :=
  ∀ (c : Instr) (i : ArmId) (s t : State), Instr.armOf c = some i → exec c s = .next t →
    (t.arm (ArmId.other i) = s.arm (ArmId.other i) ∨
      ((s.arm i).doze = true ∧ t.arm (ArmId.other i) = (s.arm (ArmId.other i)).dozeOff)) ∧
    t.tileMap = s.tileMap ∧ t.engine = s.engine ∧ t.timers = s.timers ∧ t.memory = s.memory ∧
    t.uplink = s.uplink ∧ t.handler = s.handler ∧ t.notices.quests = s.notices.quests ∧
    t.notices.events = s.notices.events

/-- An entry of rule memory that reads clean, with no write-back pending, is changed only by a write of it, an upset (one
that falls inside an event item among them, log 4) or a reset: no scan, scrubber visit or read request touches it (R101,
R144, R149, R153). A quest's definition is changed by a QUEST-WRITE of it and by a reset only (R60). -/
def Obligations.StoredRecordsStand : Prop :=
  (∀ (c : Instr) (s t : State) (i : Fin 256), readOutcome s.memory.entries[i] = .clean → s.memory.writeBack = none →
     (∀ body, c ≠ .ruleWrite body ∧ c ≠ .rawWrite body) → (∀ p, c ≠ .bitUpset i p) →
     (∀ x ∈ s.asides, ∀ p, x.command ≠ .bitUpset i p) → c ≠ .powerOn → c ≠ .resetLine → c ≠ .rstnRelease →
     exec c s = .next t → t.memory.entries[i] = s.memory.entries[i]) ∧
  (∀ (c : Instr) (s t : State) (q : Fin 16),
     (∀ body, c = .questWrite body → byteAt body 0 ≠ byteOf q.val) → c ≠ .powerOn → c ≠ .resetLine →
     c ≠ .rstnRelease → exec c s = .next t → (t.quest q).definition = (s.quest q).definition)

/-! ### The code of rule memory -/

/-- An entry as it is written reads clean and gives its data back; with any one position inverted it reads as one changed
bit naming that position, and the correction restores the entry; with any two inverted it reads as two changed bits (R142
to R144). -/
def Obligations.CodeCorrectsOneAndDetectsTwoChangedBits : Prop :=
  (∀ data : BitVec 224,
    readOutcome (encodeEntry data) = .clean ∧ entryData (encodeEntry data) = data ∧
    ∀ p : Fin 233, readOutcome (flipBit (encodeEntry data) p) = .oneChanged p ∧
      encodeEntry (entryData (flipBit (flipBit (encodeEntry data) p) p)) = encodeEntry data) ∧
  ∀ (data : BitVec 224) (p q : Fin 233), p ≠ q →
    readOutcome (flipBit (flipBit (encodeEntry data) p) q) = .twoChanged

/-! ### The uplink -/

/-- A frame that a host builds by R181 and sends byte by byte is received whole: run through the step function, its
line bytes put exactly its content behind the complete frames, whatever bytes the content holds, and a buffer count that
has risen to 384 or more sets a clear receive-held mark with one HOLD owed (R164 to R170, R181). -/
def Obligations.UplinkFrameIsReceivedWhole : Prop :=
  ∀ (s : State) (kind : Byte) (body : List Byte) (rest : List Instr),
    body.length ≤ 40 → s.rstnLow = false → s.uplink.rx = .idle → s.uplink.bufferCount + (body.length + 3) ≤ 512 →
    s.pending = arriving (frameLine kind body) ++ rest →
    ∃ t, Host.Core.run core (frameLine kind body).length s = .next t ∧
      t.uplink.frames = s.uplink.frames ++ [frameContent kind body] ∧ t.uplink.rx = .idle ∧ t.uplink.part = [] ∧
      t.uplink.escape = false ∧ t.uplink.hostHeld = s.uplink.hostHeld ∧ t.uplink.tx = s.uplink.tx ∧
      t.uplink.lastFlow = s.uplink.lastFlow ∧
      t.uplink.marks = marksAfterRise ((s.uplink.frames.map List.length).sum + (body.length + 3)) s.uplink.marks ∧
      t = (s.withUplink t.uplink).withPending rest

/-- A byte in IDLE or DISCARD that is no flow byte: a start byte with a good stop bit begins a frame, anything else is a
stray in IDLE and is ignored in DISCARD (R165). Four byte times of quiet garble a frame in progress, whose bytes leave
the buffer, end a DISCARD without an alert (R168, R170), and do nothing else (that neither command has an effect outside
its own state is log 2). -/
def Obligations.BytesOutsideAFrame : Prop :=
  (∀ (s : State) (b : Byte) (stopOk : Bool), s.rstnLow = false → notFlowByte b stopOk = true →
     (s.uplink.rx ≠ .frame → b = 0xC5 → stopOk = true →
       exec (.uplinkByteReceived b stopOk) s =
         .next (s.withUplink { s.uplink with rx := .frame, escape := false, part := [] })) ∧
     (s.uplink.rx = .idle → ¬ (b = 0xC5 ∧ stopOk = true) →
       exec (.uplinkByteReceived b stopOk) s =
         .next ((s.withUplink { s.uplink with rx := .discard }).raise .uplinkGarbled)) ∧
     (s.uplink.rx = .discard → ¬ (b = 0xC5 ∧ stopOk = true) → exec (.uplinkByteReceived b stopOk) s = .next s)) ∧
  (∀ s : State, s.rstnLow = false →
     (s.uplink.rx = .frame → ∃ t, exec .partialFrameTimeout s = .next t ∧ s.garbledTo t .idle s.uplink.marks) ∧
     (s.uplink.rx ≠ .frame → exec .partialFrameTimeout s = .next s) ∧
     (s.uplink.rx = .discard → exec .discardQuiet s = .next (s.withUplink { s.uplink with rx := .idle })) ∧
     (s.uplink.rx ≠ .discard → exec .discardQuiet s = .next s))

/-- A byte in FRAME, by the first of these that holds: with a bad stop bit, as an unescaped start byte, or as an invalid
escape it garbles the frame; an unescaped 0xF0 sets the escape; any other is a content byte, escaped or not. A content byte
is lost to a full buffer, which garbles the frame; else it is stored, and garbles the frame by a length out of range or a
wrong sum at the end, ends it with a right one, or leaves it in progress (R165 to R167, R169). A garbled frame's bytes leave
the buffer, with one alert, and the receiver is as R167's table says. A count that rises to 384 or more with the
receive-held mark clear sets it with a HOLD owed, one that falls to 128 or less with it set clears it with a GO owed
(R170); nothing else changes. -/
def Obligations.BytesInsideAFrameAreStoredOrGarbleIt : Prop :=
  ∀ (s : State) (b : Byte), s.rstnLow = false → s.uplink.rx = .frame →
    (∃ t, exec (.uplinkByteReceived b false) s = .next t ∧ s.garbledTo t .discard s.uplink.marks) ∧
    (∃ t, exec (.uplinkByteReceived 0xC5 true) s = .next t ∧ s.garbledTo t .frame s.uplink.marks) ∧
    ((b = 0xF0 ∨ (b ≠ 0x85 ∧ b ≠ 0xB0 ∧ b ≠ 0xB1 ∧ b ≠ 0xB2 ∧ b ≠ 0xC5 ∧ b ≠ 0xF1 ∧ b ≠ 0xF2)) →
      s.uplink.escape = true →
      ∃ t, exec (.uplinkByteReceived b true) s = .next t ∧ s.garbledTo t .discard s.uplink.marks) ∧
    (s.uplink.escape = false →
      exec (.uplinkByteReceived 0xF0 true) s = .next (s.withUplink { s.uplink with escape := true })) ∧
    ∀ d : Byte, ((s.uplink.escape = false ∧ needsEscape b = false ∧ d = b) ∨
        (s.uplink.escape = true ∧ (b = 0x85 ∨ b = 0xB0 ∨ b = 0xB1 ∨ b = 0xB2) ∧ d = b ^^^ 0x40)) →
      ∃ t, exec (.uplinkByteReceived b true) s = .next t ∧
        (512 ≤ s.uplink.bufferCount → s.garbledTo t .discard s.uplink.marks) ∧
        (s.uplink.bufferCount < 512 →
          ∀ (length : Byte) (rest : List Byte) (marks : Bool × List FlowByte),
            s.uplink.part ++ [d] = length :: rest →
            marks = marksAfterRise (s.uplink.bufferCount + 1) s.uplink.marks →
            (length.toNat = 0 ∨ 41 < length.toNat → s.garbledTo t .discard marks) ∧
            (1 ≤ length.toNat → length.toNat ≤ 41 → rest.length = length.toNat + 1 →
              ((length :: rest).map BitVec.toNat).sum % 256 ≠ 0 → s.garbledTo t .idle marks) ∧
            (1 ≤ length.toNat → length.toNat ≤ 41 → rest.length = length.toNat + 1 →
              ((length :: rest).map BitVec.toNat).sum % 256 = 0 → t = s.withUplink t.uplink ∧
              Uplink.becomes { s.uplink with
                rx := .idle, escape := false, frames := s.uplink.frames ++ [length :: rest], part := [] } t.uplink marks) ∧
            (1 ≤ length.toNat → length.toNat ≤ 41 → rest.length < length.toNat + 1 → t = s.withUplink t.uplink ∧
              Uplink.becomes { s.uplink with escape := false, part := length :: rest } t.uplink marks))

/-- HOLD sets the host-held mark; GO clears it and, with no frame in progress, lets the transmitter choose at once; a
GO while the mark is clear changes nothing; with a bad stop bit neither is a flow byte (R165, R171). The oldest owed
flow byte leaves at a byte boundary, whatever frame, mark or reply waits, and the next behind it (R170, R172); that the
byte is kept as the last one on UPTX is the model's own observation, and that a GO begins the frame in the same step is
its choice (logs 13 and 14). -/
def Obligations.FlowBytesBothWays : Prop :=
  (∀ s : State, s.rstnLow = false →
     exec (.holdReceived true) s = .next (s.withUplink { s.uplink with hostHeld := true }) ∧
     (s.uplink.hostHeld = false → exec (.goReceived true) s = .next s) ∧
     (s.uplink.hostHeld = true → s.uplink.tx ≠ none →
       exec (.goReceived true) s = .next (s.withUplink { s.uplink with hostHeld := false })) ∧
     (s.uplink.hostHeld = true → s.uplink.tx = none →
       exec (.goReceived true) s = exec .transmitFrameStart (s.withUplink { s.uplink with hostHeld := false })) ∧
     exec (.holdReceived false) s = exec (.uplinkByteReceived 0xF1 false) s ∧
     exec (.goReceived false) s = exec (.uplinkByteReceived 0xF2 false) s) ∧
  (∀ (s : State) (f : FlowByte) (rest : List FlowByte), s.rstnLow = false → s.uplink.flowOwed = f :: rest →
     exec .flowByteSend s = .next (s.withUplink { s.uplink with flowOwed := rest, lastFlow := some f }))

/-- The free transmitter begins the pending reply, else the oldest alert, else the oldest quest notice, else the oldest
echo; only the alert leaves its queue at the beginning; a held or busy transmitter begins nothing (R161, R162, R171).
Flow bytes owed on the idle line leave before the frame (log 13). A frame's line is the start byte and the escaped
content: length, kind, body and the check byte that makes the sum a multiple of 256 (R181); the kind byte of a reply is
its request's with the status in the top bits, 0xA0 for UNKNOWN whatever the request's was (R182), and the bodies of the
notices are those of chapter 11 "Notice bodies" (R120). -/
def Obligations.TransmitterRanksItsSourcesAndBuildsTheirFrames : Prop :=
  (∀ s : State, s.rstnLow = false →
    (s.uplink.tx = none → s.uplink.hostHeld = false →
      (∀ r, s.handler = .reply r → exec .transmitFrameStart s =
        .next ((s.withHandler (.sending r)).withUplink { s.uplink.flushFlow with tx := some ⟨.reply, replyLine r⟩ })) ∧
      ((∀ r, s.handler ≠ .reply r) →
        (∀ e rest, s.notices.alerts = e :: rest → exec .transmitFrameStart s =
          .next ((s.withNotices { s.notices with alerts := rest }).withUplink
            { s.uplink.flushFlow with tx := some ⟨.alert, alertLine e⟩ })) ∧
        (∀ n rest, s.notices.alerts = [] → s.notices.quests = n :: rest → exec .transmitFrameStart s =
          .next (s.withUplink { s.uplink.flushFlow with tx := some ⟨.quest true, questLine n⟩ })) ∧
        (∀ e rest, s.notices.alerts = [] → s.notices.quests = [] → s.notices.events = e :: rest →
          exec .transmitFrameStart s =
            .next (s.withUplink { s.uplink.flushFlow with tx := some ⟨.event true, eventLine e⟩ })) ∧
        (s.notices.alerts = [] → s.notices.quests = [] → s.notices.events = [] →
          exec .transmitFrameStart s = .next s))) ∧
    (s.uplink.tx ≠ none ∨ s.uplink.hostHeld = true → exec .transmitFrameStart s = .next s)) ∧
  (∀ (kind : Byte) (body : List Byte), ∃ check : Byte,
    ((byteOf (body.length + 1) :: kind :: (body ++ [check])).map BitVec.toNat).sum % 256 = 0 ∧
    frameLine kind body = 0xC5 :: (byteOf (body.length + 1) :: kind :: (body ++ [check])).flatMap fun b =>
      if b ∈ [0xC5, 0xF0, 0xF1, 0xF2] then [0xF0, b ^^^ 0x40] else [b]) ∧
  (∀ (r : Reply) (kind : Byte) (code : Nat), (r.status ≠ .unknown → r.kind.toNat ≤ 0x1B) →
    (r.status, code) ∈ [(Status.ok, 1), (.busy, 2), (.invalid, 3), (.full, 4), (.unknown, 5)] →
    kind.toNat = 32 * code + (if r.status = .unknown then 0 else r.kind.toNat) →
    replyLine r = frameLine kind r.body) ∧
  (∀ (n : Nat) (i : ArmId) (p : Fin 32) (rule : Fin 256) (place : Nat),
    alertLine ⟨.started .powerOn, n⟩ = frameLine 0xE0 [1, byteOf n, 0] ∧
    alertLine ⟨.started .resetLine, n⟩ = frameLine 0xE0 [1, byteOf n, 1] ∧
    alertLine ⟨.tileLost i p, n⟩ = frameLine 0xE0 [2, byteOf n, if i = .a then 0 else 1, byteOf p.val] ∧
    alertLine ⟨.tileBack i p, n⟩ = frameLine 0xE0 [3, byteOf n, if i = .a then 0 else 1, byteOf p.val] ∧
    alertLine ⟨.tileMismatch i p, n⟩ = frameLine 0xE0 [4, byteOf n, if i = .a then 0 else 1, byteOf p.val] ∧
    alertLine ⟨.armFault i, n⟩ = frameLine 0xE0 [5, byteOf n, if i = .a then 0 else 1] ∧
    alertLine ⟨.ruleLost rule, n⟩ = frameLine 0xE0 [6, byteOf n, byteOf rule.val] ∧
    alertLine ⟨.ruleFault rule place .questUndefined, n⟩ = frameLine 0xE0 [7, byteOf n, byteOf rule.val, byteOf place, 1] ∧
    alertLine ⟨.ruleFault rule place .prereqUnmet, n⟩ = frameLine 0xE0 [7, byteOf n, byteOf rule.val, byteOf place, 2] ∧
    alertLine ⟨.ruleFault rule place .notStartable, n⟩ = frameLine 0xE0 [7, byteOf n, byteOf rule.val, byteOf place, 3] ∧
    alertLine ⟨.uplinkGarbled, n⟩ = frameLine 0xE0 [8, byteOf n] ∧ alertLine ⟨.wake, n⟩ = frameLine 0xE0 [9, byteOf n]) ∧
  (∀ (q stage : Fin 16) (seat : Fin 6) (score : Score) (code : Byte),
    questLine (.questStarted q) = frameLine 0xE1 [1, byteOf q.val] ∧
    questLine (.stage q stage) = frameLine 0xE1 [2, byteOf q.val, byteOf stage.val] ∧
    questLine (.complete q) = frameLine 0xE1 [3, byteOf q.val] ∧
    questLine (.failed q .failedByRule) = frameLine 0xE1 [4, byteOf q.val, 1] ∧
    questLine (.failed q .timedOut) = frameLine 0xE1 [4, byteOf q.val, 2] ∧
    questLine (.score seat score) = frameLine 0xE1 [5, byteOf seat.val, byteOf (score.value / 256), byteOf score.value,
      if score.saturated then 1 else 0] ∧
    questLine (.turn seat) = frameLine 0xE1 [6, byteOf seat.val] ∧
    questLine (.signal (some q) code) = frameLine 0xE1 [7, byteOf q.val, code] ∧
    questLine (.signal none code) = frameLine 0xE1 [7, 255, code]) ∧
  ∀ (r : EventRecord) (n : Nat) (piece : Piece) (seat : Byte) (head : Byte → List Byte), head = (fun kind =>
      [0, byteOf n, if r.arm = .a then 0 else 1, byteOf r.position.val, kind, byteOf r.zone.val]) →
    (piece.seat = .neutral → seat = 7) → (∀ k, piece.seat = .player k → seat = byteOf k.val) →
    (r.event = .press → eventLine ⟨.tile r, n⟩ = frameLine 0xE2 (head 1)) ∧
    (r.event = .release → eventLine ⟨.tile r, n⟩ = frameLine 0xE2 (head 2)) ∧
    (r.event = .place piece → eventLine ⟨.tile r, n⟩ = frameLine 0xE2 (head 3 ++ [byteOf piece.id.val, seat])) ∧
    (r.event = .lift piece → eventLine ⟨.tile r, n⟩ = frameLine 0xE2 (head 4 ++ [byteOf piece.id.val, seat])) ∧
    (∀ q, eventLine ⟨.timer q, n⟩ = frameLine 0xE2 [1, byteOf n, byteOf q.val]) ∧
    ∀ c, eventLine ⟨.injected c, n⟩ = frameLine 0xE2 [2, byteOf n, c]

/-- At the end of a frame a reply frees the request handler, and a quest notice or echo that still stands in its queue
leaves it (R161, R163, R174); with no frame in transmission there is no end of one, and the state stands (log 2). -/
def Obligations.FrameEndReleasesItsSource : Prop :=
  ∀ (s : State) (line : List Byte), s.rstnLow = false →
    (s.uplink.tx = some ⟨.reply, line⟩ →
      exec .transmitFrameEnd s = .next ((s.withUplink { s.uplink with tx := none }).withHandler .idle)) ∧
    (s.uplink.tx = some ⟨.alert, line⟩ → exec .transmitFrameEnd s = .next (s.withUplink { s.uplink with tx := none })) ∧
    (∀ n rest, s.uplink.tx = some ⟨.quest true, line⟩ → s.notices.quests = n :: rest → exec .transmitFrameEnd s =
      .next ((s.withUplink { s.uplink with tx := none }).withNotices { s.notices with quests := rest })) ∧
    (∀ e rest, s.uplink.tx = some ⟨.event true, line⟩ → s.notices.events = e :: rest → exec .transmitFrameEnd s =
      .next ((s.withUplink { s.uplink with tx := none }).withNotices { s.notices with events := rest })) ∧
    (s.uplink.tx = some ⟨.quest false, line⟩ ∨ s.uplink.tx = some ⟨.event false, line⟩ →
      exec .transmitFrameEnd s = .next (s.withUplink { s.uplink with tx := none })) ∧
    (s.uplink.tx = none → exec .transmitFrameEnd s = .next s)

/-- The free handler takes the oldest complete frame, whose bytes leave the buffer; a count that falls to 128 or less with
the receive-held mark set clears it with a GO owed. A management request becomes the pending item, an unknown kind is
answered UNKNOWN with the kind byte, and a request of the direct kinds is served as its own command serves it (R169, R170,
R174, R175). -/
def Obligations.RequestTakeDecodesTheKind : Prop :=
  ∀ (s : State) (kind : Byte) (body : List Byte) (rest : List (List Byte)) (port : Uplink), s.rstnLow = false →
    s.handler = .idle → body.length ≤ 40 → s.uplink.frames = frameContent kind body :: rest →
    Uplink.becomes { s.uplink with frames := rest } port
      (marksAfterFall ((rest.map List.length).sum + s.uplink.part.length) s.uplink.marks) →
    (0x08 ≤ kind.toNat → kind.toNat ≤ 0x1B → exec .requestTake s =
      .next ((s.withUplink port).withHandler (.pending kind body))) ∧
    (kind = 0 ∨ 0x1B < kind.toNat → exec .requestTake s =
      .next ((s.withUplink port).replying kind .unknown [kind])) ∧
    (∀ c, ((kind, c) ∈ [((0x01 : Byte), Instr.identify body), (0x02, .armStatus body), (0x03, .tileRead body),
        (0x04, .armStart body), (0x05, .armStop body), (0x06, .doze body), (0x07, .diagCapture body)]) →
      ∃ t, exec c (s.withUplink { s.uplink with frames := [] }) = .next t ∧
        exec .requestTake s = .next (t.withUplink port))

/-! ### Requests served directly -/

/-- IDENTIFY reports the fixed values of R176, ARM-STATUS the controller's state, counts and queue lengths (R44, R59),
TILE-READ the four map fields and the presence state and miss count of the position (R18); none of them changes anything
else, and a body that does not fit is refused INVALID. The request is served when the handler is free (log 3). -/
def Obligations.ReportsOfTheDirectRequests : Prop :=
  (∀ (s : State) (body : List Byte), s.handlerIdle →
     (body = [] → exec (.identify body) s =
       .next (s.replying 0x01 .ok [0x04, 0x12, 1, 2, 32, 1, 0, 16, 16, 32, 8, 32, 24, 2, 0])) ∧
     (body ≠ [] → exec (.identify body) s = .next (s.replying 0x01 .invalid []))) ∧
  (∀ (s : State) (body : List Byte), s.handlerIdle →
     (∀ i, body = [armCode i] → exec (.armStatus body) s =
       .next (s.replying 0x02 .ok
         [armCode i, armPhaseCode (s.arm i).phase, byteOf (s.arm i).counter.val, byteOf (s.arm i).framing,
          byteOf (s.arm i).check, byteOf (s.arm i).shape, byteOf (s.arm i).stray, yesNoCode (s.arm i).doze,
          byteOf (s.arm i).fifo.length, byteOf (s.arm i).effects.length])) ∧
     ((¬ ∃ i, body = [armCode i]) → exec (.armStatus body) s = .next (s.replying 0x02 .invalid []))) ∧
  (∀ (s : State) (body : List Byte), s.handlerIdle →
     (∀ (i : ArmId) (p : Fin 32), body = [byteOf (tileIndex i p).val] → exec (.tileRead body) s =
       .next (s.replying 0x03 .ok
         [byteOf (tileIndex i p).val, yesNoCode (s.mapRec i p).excluded, tileKindCode (s.mapRec i p).kind,
          byteOf (s.mapRec i p).zone.val, yesNoCode (s.mapRec i p).echo, presenceCode (s.presence i p).state,
          byteOf (s.presence i p).misses])) ∧
     ((¬ ∃ k : Fin 64, body = [byteOf k.val]) → exec (.tileRead body) s = .next (s.replying 0x03 .invalid [])))

/-- ARM-START of an arm that is OFF or FAULTED: ENUMERATING from position 0 with counts and presence reset, FIFO,
effect queue and doze flag kept; BUSY otherwise (R9, R20, R33). ARM-STOP in every arm state: OFF, line released, both
queues emptied, presence reset, error counts and doze flag kept, the other arm untouched (R9, R20, R35, R48, R57). Both
are served when the handler is free (log 3). -/
def Obligations.ArmStartAndArmStopMoveTheArm : Prop :=
  (∀ (s : State) (body : List Byte), s.handlerIdle →
     (∀ i, body = [armCode i] → ((s.arm i).phase = .off ∨ (s.arm i).phase = .faulted) → exec (.armStart body) s =
       .next ((s.withArm i { s.arm i with
           phase := .enumerating, counter := 0, position := 0, pass := .reaching, rotationPolled := false,
           line := .free, alternation := .poll, record := ⟨false, false, false⟩, framing := 0, check := 0, shape := 0,
           stray := 0, startMark := none,
           presence := Vector.ofFn fun p =>
             ⟨if (s.mapRec i p).excluded then .excluded else .unknown, 0, true, 0, false⟩ }).replying 0x04 .ok
         [armCode i, 1])) ∧
     (∀ i, body = [armCode i] → ((s.arm i).phase = .enumerating ∨ (s.arm i).phase = .running) →
       exec (.armStart body) s = .next (s.replying 0x04 .busy [])) ∧
     ((¬ ∃ i, body = [armCode i]) → exec (.armStart body) s = .next (s.replying 0x04 .invalid []))) ∧
  (∀ (s : State) (body : List Byte), s.handlerIdle →
     (∀ i, body = [armCode i] → exec (.armStop body) s =
       .next ((s.withArm i { s.arm i with
           phase := .off, counter := 0, position := 0, pass := .reaching, rotationPolled := false, line := .free,
           alternation := .poll, record := ⟨false, false, false⟩, startMark := none, fifo := [], effects := [],
           presence := Vector.ofFn fun p =>
             ⟨if (s.mapRec i p).excluded then .excluded else .unknown, 0, true, 0, false⟩ }).replying 0x05 .ok
         [armCode i, 0])) ∧
     ((¬ ∃ i, body = [armCode i]) → exec (.armStop body) s = .next (s.replying 0x05 .invalid [])))

/-- DOZE on sets both arms' flags and nothing else; DOZE off clears both, and an arm that waits between rotations with
its flag on waits no longer (R40, R42; that the wait ends through the start mark is log 6 and log 10). -/
def Obligations.DozeSetsBothFlags : Prop :=
  ∀ (s : State) (body : List Byte), s.handlerIdle →
    (body = [1] → exec (.doze body) s =
      .next (((s.withArm .a { s.armA with doze := true }).withArm .b { s.armB with doze := true }).replying 0x06 .ok [])) ∧
    (body = [0] → ∃ t, exec (.doze body) s = .next (t.replying 0x06 .ok []) ∧
      (∀ i, (t.arm i).doze = false ∧ t.arm i = { s.arm i with doze := false, startMark := (t.arm i).startMark } ∧
        ((s.arm i).doze = true → (s.arm i).pass = .between → (t.arm i).mayStart = true) ∧
        ((s.arm i).doze = false ∨ (s.arm i).pass ≠ .between → (t.arm i).startMark = (s.arm i).startMark)) ∧
      t = (s.withArm .a t.armA).withArm .b t.armB) ∧
    (body ≠ [0] → body ≠ [1] → exec (.doze body) s = .next (s.replying 0x06 .invalid []))

/-- DIAG-CAPTURE reports the capture record and both counts as they stand, and empties and zeroes them; nothing else
changes (R147). -/
def Obligations.DiagCaptureReportsAndClears : Prop :=
  ∀ (s : State) (body : List Byte), s.handlerIdle →
    (body = [] → exec (.diagCapture body) s =
      .next ((s.withMemory { s.memory with capture := none, corrected := 0, uncorrectable := 0 }).replying 0x07 .ok
        ((match s.memory.capture with
          | none => [0, 255, 255, 255, 255]
          | some ⟨.corrected p, i, f⟩ => [1, 0, byteOf i.val, byteOf p.val, foundByCode f]
          | some ⟨.uncorrectable, i, f⟩ => [1, 1, byteOf i.val, 255, foundByCode f]) ++
         [byteOf (s.memory.corrected / 256), byteOf s.memory.corrected, byteOf s.memory.uncorrectable]))) ∧
    (body ≠ [] → exec (.diagCapture body) s = .next (s.replying 0x07 .invalid []))

/-! ### Management items -/

/-- SETUP stores its four values at once and moves the turn to seat 0 when its seat is no longer in play; a value out of
range changes nothing (R100, R136). -/
def Obligations.SetupStoresItsFourValues : Prop :=
  ∀ (s : State) (body : List Byte), s.serving 0x08 body →
    (∀ (n m : Nat) (u c : Bool), 1 ≤ n → n ≤ 6 → 1 ≤ m → m ≤ 16 →
      body = [byteOf n, byteOf m, yesNoCode u, yesNoCode c] → exec (.setup body) s =
        .next ((s.withEngine { s.engine with
          seatCount := n, highMark := m, unclaimedEcho := u, scrub := c,
          turn := if s.engine.turn.val < n then s.engine.turn else 0 }).replying 0x08 .ok [])) ∧
    ((¬ ∃ (n m : Nat) (u c : Bool), 1 ≤ n ∧ n ≤ 6 ∧ 1 ≤ m ∧ m ≤ 16 ∧
        body = [byteOf n, byteOf m, yesNoCode u, yesNoCode c]) →
      exec (.setup body) s = .next (s.replying 0x08 .invalid []))

/-- TILE-WRITE stores all four fields in the one record and moves the one presence record as R4 to R6 say: exclusion
first, then kind, then zone; everything but that record and where the rotation and the line stand is kept (R3 to R7). A
poll of a position that changes its excluded or kind field ends (R7), an ASSIGN under way whose zone changes is owed again
(R10), and a change of state at the position of a visit ends the visit, or, before its first poll, lets the pass decide
again (R28; log 9). Behind that the rotation is brought to where it stands, as the statement of the rotation says: the pass
moves on, and the rotation or enumeration ends where that was the visit to position 31. A frame on the pair keeps the
rotation where it is until its end; whether an ended poll is still being sent or answered, or a stray frame received, at
that moment is a free value, and each of its values is allowed for (R27, R34; logs 7 and 35). -/
def Obligations.TileWriteMovesOnePosition : Prop :=
  ∀ (s : State) (body : List Byte), s.serving 0x09 body →
    (∀ (i : ArmId) (p : Fin 32) (new : TileRec),
      body = [byteOf (tileIndex i p).val, yesNoCode new.excluded, tileKindCode new.kind, byteOf new.zone.val,
        yesNoCode new.echo] →
      ∃ t, exec (.tileWrite body) s =
          .next ((if Config.frameOnPair s.tileWrites = true then t else t.bring i).replying 0x09 .ok []) ∧
        ((s.arm i).active = false ∨ ¬ t.pairFree i → t.bring i = t) ∧
        t = ((s.withTileMap (s.tileMap.set (tileIndex i p) new)).withArm i (t.arm i)).withTileWrites
          (s.tileWrites + 1) ∧
        t.presence i p =
          (if new.excluded = true ∧ (s.mapRec i p).excluded = false then ⟨.excluded, 0, true, 0, false⟩
           else if new.excluded = false ∧ ((s.mapRec i p).excluded = true ∨ new.kind ≠ (s.mapRec i p).kind) then
             ⟨.unknown, 0, true, 0, false⟩
           else if (s.presence i p).state = .present ∧ new.kind = (s.mapRec i p).kind ∧ new.zone ≠ (s.mapRec i p).zone then
             { s.presence i p with assign := true }
           else s.presence i p) ∧
        (∀ q, q ≠ p → t.presence i q = s.presence i q) ∧
        t.arm i = { s.arm i with
          presence := (t.arm i).presence, line := (t.arm i).line, pass := (t.arm i).pass,
          position := (t.arm i).position } ∧
        (∀ poll frame, (s.arm i).line = .poll poll frame → (t.arm i).line =
          if poll.position = p ∧ (new.excluded ≠ (s.mapRec i p).excluded ∨ new.kind ≠ (s.mapRec i p).kind) then .lapsed
          else .poll poll frame) ∧
        (∀ q frame again, (s.arm i).line = .assign q frame again → ∃ owed, (t.arm i).line = .assign q frame owed ∧
          (owed = true ↔ again = true ∨ (q = p ∧ (s.presence i p).state = .present ∧
            (t.presence i p).state = .present ∧ new.zone ≠ (s.mapRec i p).zone))) ∧
        ((∀ poll frame, (s.arm i).line ≠ .poll poll frame) → (∀ q frame again, (s.arm i).line ≠ .assign q frame again) →
          (t.arm i).line = (s.arm i).line) ∧
        ((s.arm i).position ≠ p ∨ (t.presence i p).state = (s.presence i p).state ∨
            (∀ polled, (s.arm i).pass ≠ .visiting polled) →
          (t.arm i).position = (s.arm i).position ∧ (t.arm i).pass = (s.arm i).pass) ∧
        ((s.arm i).position = p → (t.presence i p).state ≠ (s.presence i p).state →
          ((s.arm i).pass = .visiting true →
            (p.val < 31 → (t.arm i).position.val = p.val + 1 ∧ (t.arm i).pass = .reaching) ∧
            (p.val = 31 → (t.arm i).position = p ∧ (t.arm i).pass = .ended)) ∧
          ((s.arm i).pass = .visiting false → (t.arm i).position = p ∧ (t.arm i).pass = .reaching))) ∧
    ((¬ ∃ (i : ArmId) (p : Fin 32) (new : TileRec),
        body = [byteOf (tileIndex i p).val, yesNoCode new.excluded, tileKindCode new.kind, byteOf new.zone.val,
          yesNoCode new.echo]) →
      exec (.tileWrite body) s = .next (s.replying 0x09 .invalid []))

/-- A RULE-WRITE of a record that passes the checks of R104 writes the whole entry with fresh check bits and zero bytes
behind the declared actions, sets the rule's state by start-disabled and cancels a pending write-back of the entry; a
record that fails them, or a wrong length, the empty body among them, changes nothing (R104, R105, R151, R184). -/
def Obligations.RuleWriteStoresAFreshEntry : Prop :=
  (∀ (s : State) (i : Fin 256) (bytes : List Byte), s.serving 0x0A (byteOf i.val :: bytes) →
    (∀ r, bytes.length = 12 + 4 * ((byteAt bytes 1).toNat % 4 + 1) → decodeRule (packRecord bytes) = some r →
      ∃ t, exec (.ruleWrite (byteOf i.val :: bytes)) s = .next (t.replying 0x0A .ok
          [byteOf i.val, if (byteAt bytes 1).getLsbD 6 then 2 else 1]) ∧
        t = (s.withMemory t.memory).withRule i (if (byteAt bytes 1).getLsbD 6 then .disabled else .enabled) ∧
        t.memory = { s.memory with
          entries := s.memory.entries.set i (encodeEntry (packRecord bytes)), writeBack := t.memory.writeBack } ∧
        (∀ w, t.memory.writeBack = some w ↔ s.memory.writeBack = some w ∧ w.rule ≠ i)) ∧
    ((bytes.length ≠ 12 + 4 * ((byteAt bytes 1).toNat % 4 + 1) ∨ decodeRule (packRecord bytes) = none) →
      exec (.ruleWrite (byteOf i.val :: bytes)) s = .next (s.replying 0x0A .invalid []))) ∧
  ∀ s : State, s.serving 0x0A [] → exec (.ruleWrite []) s = .next (s.replying 0x0A .invalid [])

/-- A record is let through exactly when none of the checks of R104 on its bytes refuses it: the codes, the ranges of the
fields that are read, the fit of trigger and place, and the home quest (R65, R102 to R104). What is let through is read as
its bytes say, field by field and action by action (R101 to R103), and has 1 to 4 actions, a place that fits the trigger,
no home-quest action and no COUNTER guard without a home quest, and no timer start of 0 ticks. -/
def Obligations.RecordsAreCheckedAndReadByTheirBytes : Prop :=
  (∀ data : BitVec 224, (∃ r, decodeRule data = some r) ↔ recordLegal (recordByte data)) ∧
  ∀ (data : BitVec 224) (r : RuleRecord), decodeRule data = some r →
    r.spelledBy (recordByte data) ∧ 1 ≤ r.actions.length ∧ r.actions.length ≤ 4 ∧
    ((r.trigger = .timer → (∀ z, r.place ≠ .zone z) ∧ (∀ k, r.place ≠ .tile k) ∧ ∀ c, r.place ≠ .code c) ∧
     (r.trigger = .injected → (∀ z, r.place ≠ .zone z) ∧ (∀ k, r.place ≠ .tile k) ∧ ∀ q, r.place ≠ .quest q) ∧
     (r.trigger ≠ .timer → ∀ q, r.place ≠ .quest q) ∧ (r.trigger ≠ .injected → ∀ c, r.place ≠ .code c)) ∧
    (r.home = none → (∀ a ∈ r.actions, a.isHome = false ∧ a.condition = 0) ∧ ∀ c, r.guard.source ≠ .counter c) ∧
    ∀ a ∈ r.actions, a.kind ≠ .timerStart 0

/-- A RULE-READ right after a RULE-WRITE returns the record as written, unused action slots zero, with the state the
write set; the read changes nothing (R106, R184). -/
def Obligations.RuleReadReturnsTheRecordWritten : Prop :=
  ∀ (s t u : State) (i : Fin 256) (bytes : List Byte), s.serving 0x0A (byteOf i.val :: bytes) →
    bytes.length = 12 + 4 * ((byteAt bytes 1).toNat % 4 + 1) → decodeRule (packRecord bytes) ≠ none →
    exec (.ruleWrite (byteOf i.val :: bytes)) s = .next t →
    u = t.withHandler (.pending 0x0B [byteOf i.val]) →
    exec (.ruleRead [byteOf i.val]) u =
      .next (u.replying 0x0B .ok (byteOf i.val :: (if (byteAt bytes 1).getLsbD 6 then 2 else 1) ::
        (bytes ++ List.replicate (28 - bytes.length) 0)))

/-- RULE-READ reads through the check: a clean entry is returned and nothing changes; one changed bit is corrected,
written back, counted and captured, and the corrected record returned; two changed bits are refused INVALID, counted,
captured, alerted, and quarantine a rule in play (R106, R144, R145). -/
def Obligations.RuleReadGoesThroughTheCheck : Prop :=
  ∀ (s : State) (i : Fin 256), s.serving 0x0B [byteOf i.val] →
    (readOutcome s.memory.entries[i] = .clean → exec (.ruleRead [byteOf i.val]) s =
      .next (s.replying 0x0B .ok (byteOf i.val :: ruleStateCode (s.rule i) ::
        unpackRecord (entryData s.memory.entries[i])))) ∧
    (∀ p, readOutcome s.memory.entries[i] = .oneChanged p → exec (.ruleRead [byteOf i.val]) s =
      .next ((s.withMemory { s.memory with
          entries := s.memory.entries.set i (encodeEntry (entryData (flipBit s.memory.entries[i] p))),
          corrected := min (s.memory.corrected + 1) (max s.memory.corrected 65535),
          capture := some (s.memory.capture.getD ⟨.corrected p, i, .read⟩),
          writeBack := s.memory.writeBack.filter fun w => w.rule ≠ i }).replying 0x0B .ok
        (byteOf i.val :: ruleStateCode (s.rule i) :: unpackRecord (entryData (flipBit s.memory.entries[i] p))))) ∧
    (readOutcome s.memory.entries[i] = .twoChanged → exec (.ruleRead [byteOf i.val]) s =
      .next ((((s.withMemory { s.memory with
          uncorrectable := min (s.memory.uncorrectable + 1) (max s.memory.uncorrectable 255),
          capture := some (s.memory.capture.getD ⟨.uncorrectable, i, .read⟩) }).withRule i
            (if s.rule i = .empty then .empty else .quarantined)).raise (.ruleLost i)).replying 0x0B .invalid []))

/-- The host's RULE-ENABLE and RULE-DISABLE move the rule's state by R108's table, reply with the state after, and touch
nothing else; a body that is no index is refused INVALID. -/
def Obligations.RuleEnableAndDisableFollowTheTable : Prop :=
  ∀ (s : State) (i : Fin 256),
    (s.serving 0x0C [byteOf i.val] →
      ((s.rule i = .disabled ∨ s.rule i = .spent ∨ s.rule i = .enabled) → exec (.ruleEnable [byteOf i.val]) s =
        .next ((s.withRule i .enabled).replying 0x0C .ok [byteOf i.val, 1])) ∧
      ((s.rule i = .empty ∨ s.rule i = .quarantined) → exec (.ruleEnable [byteOf i.val]) s =
        .next (s.replying 0x0C .invalid []))) ∧
    (s.serving 0x0D [byteOf i.val] →
      ((s.rule i = .enabled ∨ s.rule i = .spent ∨ s.rule i = .disabled) → exec (.ruleDisable [byteOf i.val]) s =
        .next ((s.withRule i .disabled).replying 0x0D .ok [byteOf i.val, 2])) ∧
      (s.rule i = .empty → exec (.ruleDisable [byteOf i.val]) s = .next (s.replying 0x0D .ok [byteOf i.val, 0])) ∧
      (s.rule i = .quarantined → exec (.ruleDisable [byteOf i.val]) s =
        .next (s.replying 0x0D .ok [byteOf i.val, 4]))) ∧
    (∀ body : List Byte, body.length ≠ 1 →
      (s.serving 0x0C body → exec (.ruleEnable body) s = .next (s.replying 0x0C .invalid [])) ∧
      (s.serving 0x0D body → exec (.ruleDisable body) s = .next (s.replying 0x0D .invalid [])) ∧
      (s.serving 0x0B body → exec (.ruleRead body) s = .next (s.replying 0x0B .invalid [])))

/-- RAW-READ returns the 233 stored bits as they stand, in the layout of R184, with the rule's state, unchecked, and
changes nothing (R153, R184). RAW-WRITE writes the data bytes with computed check bits and inverts each listed position,
whatever the data say; the state comes from the data's start-disabled bit before any inversion; a pending write-back of
the entry is cancelled (R152). -/
def Obligations.RawAccessMovesTheStoredBits : Prop :=
  (∀ (s : State) (body : List Byte), s.serving 0x0E body →
     (∀ i : Fin 256, body = [byteOf i.val] →
       ∃ bits : List Byte, exec (.rawRead body) s =
           .next (s.replying 0x0E .ok (byteOf i.val :: ruleStateCode (s.rule i) :: bits)) ∧
         bits.length = 30 ∧
         (∀ n b : Nat, n < 30 → b < 8 → 8 * n + b < 233 →
           (byteAt bits n).getLsbD b = (s.memory.entries[i]).getLsbD (8 * n + b)) ∧
         ∀ b : Nat, 1 ≤ b → (byteAt bits 29).getLsbD b = false) ∧
     (body.length ≠ 1 → exec (.rawRead body) s = .next (s.replying 0x0E .invalid []))) ∧
  (∀ (s : State) (body : List Byte), s.serving 0x0F body →
     (∀ (i : Fin 256) (data : List Byte) (flips : List (Fin 233)), data.length = 28 → flips.length ≤ 2 →
       body = byteOf i.val :: byteOf flips.length :: (data ++ flips.map fun p => byteOf p.val) →
       ∃ t, exec (.rawWrite body) s = .next (t.replying 0x0F .ok
           [byteOf i.val, if (byteAt data 1).getLsbD 6 then 2 else 1]) ∧
         t = (s.withMemory t.memory).withRule i (if (byteAt data 1).getLsbD 6 then .disabled else .enabled) ∧
         t.memory = { s.memory with
           entries := s.memory.entries.set i (flips.foldl flipBit (encodeEntry (packRecord data))),
           writeBack := t.memory.writeBack } ∧
         (∀ w, t.memory.writeBack = some w ↔ s.memory.writeBack = some w ∧ w.rule ≠ i)) ∧
     ((¬ ∃ (i : Fin 256) (data : List Byte) (flips : List (Fin 233)), data.length = 28 ∧ flips.length ≤ 2 ∧
         body = byteOf i.val :: byteOf flips.length :: (data ++ flips.map fun p => byteOf p.val)) →
       exec (.rawWrite body) s = .next (s.replying 0x0F .invalid [])))

/-- QUEST-WRITE of a legal definition makes a quest that is not ACTIVE LOADED with the definition the body carries and
its runtime part cleared; an ACTIVE quest refuses it BUSY, an illegal body is refused INVALID (R62, R183). -/
def Obligations.QuestWriteLoadsTheQuest : Prop :=
  ∀ (s : State) (body : List Byte), s.serving 0x10 body →
    (¬ questWriteLegal body → exec (.questWrite body) s = .next (s.replying 0x10 .invalid [])) ∧
    (questWriteLegal body → ∀ q : Fin 16, q.val = (byteAt body 0).toNat →
      ((s.quest q).state = .active → exec (.questWrite body) s = .next (s.replying 0x10 .busy [])) ∧
      ((s.quest q).state ≠ .active → ∃ d : QuestDef, d.isCarriedBy body ∧ exec (.questWrite body) s =
        .next (((s.withQuest q {
            definition := d, state := .loaded, stage := 0,
            counters := d.counters.map (·.initial), flags := ⟨false, false, false, false, false⟩,
            endReason := .none }).withTimer q ⟨false, 0⟩).replying 0x10 .ok [])))

/-- A QUEST-READ right after an accepted QUEST-WRITE returns the definition written, in the read encoding, with absent
fields zero, and the cleared runtime part of a LOADED quest (R64, R185). -/
def Obligations.QuestReadReturnsTheDefinitionWritten : Prop :=
  ∀ (s t u : State) (b : List Byte) (q : Fin 16), s.serving 0x10 b → questWriteLegal b → q.val = (byteAt b 0).toNat →
    (s.quest q).state ≠ .active → q ∉ s.engine.expiry → exec (.questWrite b) s = .next t →
    u = t.withHandler (.pending 0x11 [byteOf q.val]) →
    ∃ c : List Byte, exec (.questRead [byteOf q.val]) u = .next (u.replying 0x11 .ok c) ∧ c.length = 40 ∧
      (byteAt c 0).toNat = (byteAt b 1).toNat + 16 * (byteAt b 4).toNat + 32 * ((byteAt b 5).getLsbD 0).toNat ∧
      (byteAt c 1).toNat = (if byteAt b 2 = 255 then 0 else (byteAt b 2).toNat + 16) +
        32 * (if byteAt b 3 = 255 then 7 else (byteAt b 3).toNat) ∧
      byteAt c 2 = 0x20 ∧ (byteAt c 3).toNat = 16 * ((byteAt b 5).toNat / 16) ∧
      halfAt c 4 = (if (byteAt b 5).getLsbD 0 then halfAt b 6 else 0) ∧
      (∀ k : Fin 4, halfAt c (6 + 6 * k.val) = halfAt b (8 + 6 * k.val) ∧
        halfAt c (8 + 6 * k.val) = (if (byteAt b 5).getLsbD (4 + k.val) then halfAt b (10 + 6 * k.val) else 0) ∧
        halfAt c (10 + 6 * k.val) = (if (byteAt b 5).getLsbD (4 + k.val) then halfAt b (12 + 6 * k.val) else 0) ∧
        halfAt c (30 + 2 * k.val) = halfAt b (8 + 6 * k.val)) ∧
      halfAt c 38 = 0

/-- QUEST-READ changes nothing and reports the whole record, definition and runtime part, absent fields as 0 and an owner
of none as 7 (R64, R185). -/
def Obligations.QuestReadReportsTheRuntimePart : Prop :=
  ∀ (s : State) (body : List Byte), s.serving 0x11 body →
    (∀ q : Fin 16, body = [byteOf q.val] → (s.quest q).reasonFits = true →
      ∃ c : List Byte, exec (.questRead body) s = .next (s.replying 0x11 .ok c) ∧ c.length = 40 ∧
        (byteAt c 0).toNat % 16 = (s.quest q).definition.finalStage.val ∧
        ((byteAt c 0).getLsbD 4 = true ↔ (s.quest q).definition.onTimeout = .event) ∧
        ((byteAt c 0).getLsbD 5 = true ↔ (s.quest q).definition.startTimer ≠ none) ∧
        halfAt c 4 = (s.quest q).definition.startTimer.getD 0 ∧
        ((byteAt c 1).getLsbD 4 = true ↔ (s.quest q).definition.prerequisite ≠ none) ∧
        (byteAt c 1).toNat % 16 = ((s.quest q).definition.prerequisite.map Fin.val).getD 0 ∧
        (byteAt c 1).toNat / 32 = ((s.quest q).definition.owner.map Fin.val).getD 7 ∧
        (∀ k : Fin 4, ((byteAt c 3).getLsbD (4 + k.val) = true ↔ ((s.quest q).definition.counters[k]).clamp ≠ none) ∧
          halfAt c (6 + 6 * k.val) = ((s.quest q).definition.counters[k]).initial ∧
          halfAt c (8 + 6 * k.val) = (((s.quest q).definition.counters[k]).clamp.map Clamp.lo).getD 0 ∧
          halfAt c (10 + 6 * k.val) = (((s.quest q).definition.counters[k]).clamp.map Clamp.hi).getD 0) ∧
        ((byteAt c 0).getLsbD 6 = s.timers[q].running) ∧ ((byteAt c 0).getLsbD 7 = true ↔ q ∈ s.engine.expiry) ∧
        (byteAt c 2).getLsbD 0 = (s.quest q).flags.n ∧ (byteAt c 2).getLsbD 1 = (s.quest q).flags.z ∧
        (byteAt c 2).getLsbD 2 = (s.quest q).flags.v ∧ (byteAt c 2).getLsbD 3 = (s.quest q).flags.c ∧
        (byteAt c 2).getLsbD 4 = (s.quest q).flags.k ∧
        ((s.quest q).state, (s.quest q).endReason, (byteAt c 2).toNat / 32) ∈
          [(QuestState.idle, EndReason.none, 0), (.loaded, .none, 1), (.active, .none, 2), (.complete, .completed, 3),
           (.failed, .failedByRule, 4), (.failed, .timedOut, 5), (.failed, .aborted, 6)] ∧
        (byteAt c 3).toNat % 16 = (s.quest q).stage.val ∧
        (∀ k : Fin 4, halfAt c (30 + 2 * k.val) = (s.quest q).counters[k]) ∧ halfAt c 38 = s.timers[q].remaining) ∧
    ((¬ ∃ q : Fin 16, body = [byteOf q.val]) → exec (.questRead body) s = .next (s.replying 0x11 .invalid []))

/-- The host's QUEST-START, its outcomes in the order of R63: INVALID, BUSY, INVALID, INVALID, else ACTIVE at stage 0
with initial counters, flags 0 and the start timer, if any, running and its listed expiry gone (R63, R76). QUEST-ABORT
ends an ACTIVE quest FAILED, ABORTED, with R70's effects: the timer stopped with its count kept and the listed expiry
removed; stage, counters and flags stand and no notice is placed; otherwise INVALID (R70, R71). -/
def Obligations.QuestStartAndAbortDecideInOrder : Prop :=
  (∀ (s : State) (body : List Byte), s.serving 0x12 body →
     ((¬ ∃ q : Fin 16, body = [byteOf q.val]) → exec (.questStart body) s = .next (s.replying 0x12 .invalid [])) ∧
     ∀ q : Fin 16, body = [byteOf q.val] →
       ((s.quest q).state = .active → exec (.questStart body) s = .next (s.replying 0x12 .busy [])) ∧
       ((s.quest q).state = .idle ∨ (s.quest q).state = .complete ∨ (s.quest q).state = .failed →
         exec (.questStart body) s = .next (s.replying 0x12 .invalid [])) ∧
       (∀ k, (s.quest q).state = .loaded → (s.quest q).definition.prerequisite = some k → (s.quest k).state ≠ .complete →
         exec (.questStart body) s = .next (s.replying 0x12 .invalid [])) ∧
       ((s.quest q).state = .loaded →
         (∀ k, (s.quest q).definition.prerequisite = some k → (s.quest k).state = .complete) →
         ∃ started : State,
           started = s.withQuest q {
             definition := (s.quest q).definition, state := .active, stage := 0,
             counters := (s.quest q).definition.counters.map (·.initial),
             flags := ⟨false, false, false, false, false⟩, endReason := .none } ∧
           ((s.quest q).definition.startTimer = none →
             exec (.questStart body) s = .next (started.replying 0x12 .ok [])) ∧
           ∀ ticks, (s.quest q).definition.startTimer = some ticks →
             exec (.questStart body) s = .next ((((started.withTimer q ⟨true, ticks⟩).withEngine
               { started.engine with expiry := s.engine.expiry.filter (· != q) })).replying 0x12 .ok []))) ∧
  (∀ (s : State) (body : List Byte), s.serving 0x13 body →
     (∀ q : Fin 16, body = [byteOf q.val] → (s.quest q).state = .active → exec (.questAbort body) s =
       .next ((((s.withEngine { s.engine with
           quests := s.engine.quests.set q { s.quest q with state := .failed, endReason := .aborted },
           expiry := s.engine.expiry.filter (· != q) }).withTimer q ⟨false, s.timers[q].remaining⟩)).replying 0x13 .ok [])) ∧
     ((¬ ∃ q : Fin 16, body = [byteOf q.val] ∧ (s.quest q).state = .active) →
       exec (.questAbort body) s = .next (s.replying 0x13 .invalid [])))

/-- SCORE-SET stores a score 0 to 9999 for any of the six seats and clears its mark; SCORE-READ reports seat count, turn
seat, marks and scores and changes nothing; other bodies are refused INVALID (R95). The host's TURN-SET gives the turn
to a seat in play and refuses any other, without clamping and without a notice (R99). -/
def Obligations.ScoreAndTurnRequests : Prop :=
  (∀ (s : State) (body : List Byte),
     (s.serving 0x14 body →
       (∀ (seat : Fin 6) (n : Nat), n ≤ 9999 → body = [byteOf seat.val, byteOf (n / 256), byteOf n] →
         ∃ x : Score, x.value = n ∧ x.saturated = false ∧ exec (.scoreSet body) s =
           .next ((s.withEngine { s.engine with scores := s.engine.scores.set seat x }).replying 0x14 .ok [])) ∧
       ((¬ ∃ (seat : Fin 6) (n : Nat), n ≤ 9999 ∧ body = [byteOf seat.val, byteOf (n / 256), byteOf n]) →
         exec (.scoreSet body) s = .next (s.replying 0x14 .invalid []))) ∧
     (s.serving 0x15 body →
       (body = [] → ∃ marks : Byte, exec (.scoreRead body) s =
           .next (s.replying 0x15 .ok (byteOf s.engine.seatCount :: byteOf s.engine.turn.val :: marks ::
             (List.finRange 6).flatMap fun i =>
               [byteOf ((s.engine.scores[i]).value / 256), byteOf (s.engine.scores[i]).value])) ∧
         (∀ i : Fin 6, marks.getLsbD i.val = (s.engine.scores[i]).saturated) ∧
         marks.getLsbD 6 = false ∧ marks.getLsbD 7 = false) ∧
       (body ≠ [] → exec (.scoreRead body) s = .next (s.replying 0x15 .invalid [])))) ∧
  (∀ (s : State) (body : List Byte), s.serving 0x16 body →
     (∀ n : Fin 6, body = [byteOf n.val] → n.val < s.engine.seatCount → exec (.turnSet body) s =
       .next ((s.withEngine { s.engine with turn := n }).replying 0x16 .ok [])) ∧
     ((¬ ∃ n : Fin 6, body = [byteOf n.val] ∧ n.val < s.engine.seatCount) →
       exec (.turnSet body) s = .next (s.replying 0x16 .invalid [])))

/-- EFFECT-SEND, its outcomes in the order of R55: INVALID, dropped at an arm that is OFF or FAULTED, dropped for a tile
that is not PRESENT, FULL at 32 entries, else appended at the tail. -/
def Obligations.EffectSendDecidesInOrder : Prop :=
  ∀ (s : State) (body : List Byte), s.serving 0x17 body →
    ((¬ ∃ i e, effectSendOf i e body) → exec (.effectSend body) s = .next (s.replying 0x17 .invalid [])) ∧
    ∀ (i : ArmId) (e : EffectEntry), effectSendOf i e body →
      ((s.arm i).phase = .off ∨ (s.arm i).phase = .faulted ∨
          (∃ p, e.addr = .tile p ∧ (s.presence i p).state ≠ .present) →
        exec (.effectSend body) s = .next (s.replying 0x17 .ok [1])) ∧
      (((s.arm i).phase = .enumerating ∨ (s.arm i).phase = .running) →
        (∀ p, e.addr = .tile p → (s.presence i p).state = .present) →
        (32 ≤ (s.arm i).effects.length → exec (.effectSend body) s = .next (s.replying 0x17 .full [])) ∧
        ((s.arm i).effects.length < 32 → exec (.effectSend body) s =
          .next ((s.withArm i { s.arm i with effects := (s.arm i).effects ++ [e] }).replying 0x17 .ok [0])))

/-- INJECT places its code in an empty inject slot, in RUN and in HOLD, and is refused BUSY while the slot is full
(R137). ENGINE-HOLD and ENGINE-RUN set the engine state whatever it was and change nothing else; a body is refused
INVALID (R138). -/
def Obligations.InjectAndModeRequests : Prop :=
  (∀ (s : State) (body : List Byte), s.serving 0x18 body →
     (∀ c, body = [c] → s.engine.inject = none → exec (.inject body) s =
       .next ((s.withEngine { s.engine with inject := some c }).replying 0x18 .ok [])) ∧
     (∀ c, body = [c] → s.engine.inject ≠ none → exec (.inject body) s = .next (s.replying 0x18 .busy [])) ∧
     (body.length ≠ 1 → exec (.inject body) s = .next (s.replying 0x18 .invalid []))) ∧
  (∀ (s : State) (body : List Byte),
     (s.serving 0x19 body →
       (body = [] → exec (.engineHold body) s =
         .next ((s.withEngine { s.engine with mode := .hold }).replying 0x19 .ok [])) ∧
       (body ≠ [] → exec (.engineHold body) s = .next (s.replying 0x19 .invalid []))) ∧
     (s.serving 0x1A body →
       (body = [] → exec (.engineRun body) s =
         .next ((s.withEngine { s.engine with mode := .run }).replying 0x1A .ok [])) ∧
       (body ≠ [] → exec (.engineRun body) s = .next (s.replying 0x1A .invalid []))))

/-- GAME-RESET resets the game and keeps the board and the pack, by the two tables of R139; an effect frame or a notice
frame under way goes on with its entry gone (R48, R57, R72, R90, R96, R109, R139, R163). -/
def Obligations.GameResetKeepsBoardAndPack : Prop :=
  ∀ (s : State) (body : List Byte), s.serving 0x1B body →
    (body ≠ [] → exec (.gameReset body) s = .next (s.replying 0x1B .invalid [])) ∧
    (body = [] → ∃ t : State, exec (.gameReset body) s = .next (t.replying 0x1B .ok []) ∧
      (∀ q : Fin 16, (s.quest q).state = .idle → t.quest q = s.quest q ∧ t.timers[q] = s.timers[q]) ∧
      (∀ q : Fin 16, (s.quest q).state ≠ .idle → t.quest q =
          { definition := (s.quest q).definition, state := .loaded, stage := 0,
            counters := (s.quest q).definition.counters.map (·.initial),
            flags := ⟨false, false, false, false, false⟩, endReason := .none } ∧ t.timers[q] = ⟨false, 0⟩) ∧
      (∀ n : Fin 6, (t.engine.scores[n]).value = 0 ∧ (t.engine.scores[n]).saturated = false) ∧
      (∀ i : Fin 256, t.rule i = if s.rule i = .spent then .enabled else s.rule i) ∧
      t.engine = { s.engine with
        quests := t.engine.quests, scores := t.engine.scores, rules := t.engine.rules, expiry := [],
        inject := none, turn := 0 } ∧
      (∀ i, t.arm i = { s.arm i with fifo := [], effects := [], line := (t.arm i).line }) ∧
      (∀ i frame held, (s.arm i).line = .effect frame held → (t.arm i).line = .effect frame false) ∧
      (∀ i, (∀ frame held, (s.arm i).line ≠ .effect frame held) → (t.arm i).line = (s.arm i).line) ∧
      t.notices = { s.notices with quests := [], events := [] } ∧ t.tileMap = s.tileMap ∧ t.memory = s.memory ∧
      t.handler = s.handler ∧ t.pending = s.pending ∧ t.meanwhile = s.meanwhile ∧ t.tileWrites = s.tileWrites ∧
      t.rstnLow = s.rstnLow ∧
      t.uplink = { s.uplink with tx := t.uplink.tx } ∧ t.uplink.tx.map (·.line) = s.uplink.tx.map (·.line) ∧
      (∀ held line, s.uplink.tx = some ⟨.quest held, line⟩ → t.uplink.tx = some ⟨.quest false, line⟩) ∧
      ∀ held line, s.uplink.tx = some ⟨.event held, line⟩ → t.uplink.tx = some ⟨.event false, line⟩)

/-! ### Rule memory and timers by themselves -/

/-- The scrubber: a slot with scrub off does nothing; with scrub on it advances its index and reads the entry there
unless the rule is EMPTY or QUARANTINED; a clean entry stays, one changed bit makes the corrected entry the pending
write-back, two changed bits quarantine the rule (R144, R145, R148, R149). The end of a visit writes the pending entry,
and a slot completes a visit still open first (log 17). An upset inverts one stored bit and nothing else (R141). -/
def Obligations.ScrubberVisitsAndUpsets : Prop :=
  ∀ s : State,
    (∀ (i : Fin 256) (p : Fin 233), ∃ t, exec (.bitUpset i p) s = .next t ∧
      t = s.withMemory { s.memory with entries := t.memory.entries } ∧
      (∀ j, j ≠ i → t.memory.entries[j] = s.memory.entries[j]) ∧
      ∀ n : Nat, n < 233 → t.memory.entries[i].getLsbD n = ((s.memory.entries[i]).getLsbD n ^^ n == p.val)) ∧
    (s.rstnLow = false →
      (s.memory.writeBack = none → exec .scrubWriteBack s = .next s) ∧
      (∀ w, s.memory.writeBack = some w →
        exec .scrubWriteBack s = .next (s.withMemory { s.memory with
          entries := s.memory.entries.set w.rule w.entry, writeBack := none }) ∧
        exec .scrubSlot s = exec .scrubSlot (s.withMemory { s.memory with
          entries := s.memory.entries.set w.rule w.entry, writeBack := none })) ∧
      (s.memory.writeBack = none → s.engine.scrub = false → exec .scrubSlot s = .next s) ∧
      ∀ i next : Fin 256, s.memory.writeBack = none → s.engine.scrub = true → s.memory.scrubIndex = i →
        next.val = (i.val + 1) % 256 →
        (s.rule i = .empty ∨ s.rule i = .quarantined ∨ readOutcome s.memory.entries[i] = .clean →
          exec .scrubSlot s = .next (s.withMemory { s.memory with scrubIndex := next })) ∧
        (∀ p, s.rule i ≠ .empty → s.rule i ≠ .quarantined → readOutcome s.memory.entries[i] = .oneChanged p →
          exec .scrubSlot s = .next (s.withMemory { s.memory with
            scrubIndex := next,
            corrected := min (s.memory.corrected + 1) (max s.memory.corrected 65535),
            capture := some (s.memory.capture.getD ⟨.corrected p, i, .scrub⟩),
            writeBack := some ⟨i, encodeEntry (entryData (flipBit s.memory.entries[i] p))⟩ })) ∧
        (s.rule i ≠ .empty → s.rule i ≠ .quarantined → readOutcome s.memory.entries[i] = .twoChanged →
          exec .scrubSlot s = .next (((s.withMemory { s.memory with
            scrubIndex := next,
            uncorrectable := min (s.memory.uncorrectable + 1) (max s.memory.uncorrectable 255),
            capture := some (s.memory.capture.getD ⟨.uncorrectable, i, .scrub⟩) }).withRule i .quarantined).raise
              (.ruleLost i))))

/-- A tick in RUN lowers every running timer by one, and those that reach 0 stop and join the expiry list in ascending
quest index; in HOLD the tick is lost (R75). A tick that does this for one timer alone is QUEST_TIMER_EXPIRY (log 5). -/
def Obligations.TickLowersTheRunningTimers : Prop :=
  ∀ s : State, s.rstnLow = false →
    (s.engine.mode = .hold → exec .questTick s = .next s ∧ ∀ q, exec (.questTimerExpiry q) s = .next s) ∧
    (s.engine.mode = .run →
      (∃ t, exec .questTick s = .next t ∧
        t = (s.withTimers t.timers).withEngine { s.engine with expiry := t.engine.expiry } ∧
        (∀ q : Fin 16, s.timers[q].running = false → t.timers[q] = s.timers[q]) ∧
        (∀ q : Fin 16, s.timers[q].running = true → 1 < s.timers[q].remaining.toNat →
          t.timers[q].running = true ∧ t.timers[q].remaining.toNat + 1 = s.timers[q].remaining.toNat) ∧
        (∀ q : Fin 16, s.timers[q].running = true → s.timers[q].remaining.toNat = 1 → t.timers[q] = ⟨false, 0⟩) ∧
        t.engine.expiry = s.engine.expiry ++ (List.finRange 16).filter fun q =>
          s.timers[q].running && s.timers[q].remaining.toNat ≤ 1) ∧
      ∀ q : Fin 16,
        (s.timers[q] = ⟨true, 1⟩ → exec (.questTimerExpiry q) s =
          .next ((s.withTimer q ⟨false, 0⟩).withEngine { s.engine with expiry := s.engine.expiry ++ [q] })) ∧
        (s.timers[q].running = false ∨ 1 < s.timers[q].remaining.toNat → exec (.questTimerExpiry q) s = .next s))

/-! ### The engine's events -/

/-- The arbiter's order: no event item is taken while an item is in flight, a management item is pending, the engine
holds, or admission fails; an expiry goes before an injected event and that before the intake FIFOs; of two FIFOs that
hold records the one not served last goes first, and the item has ended at the end of the step; the FIFOs keep their
other records when no other block does anything inside the item (R121 to R126; log 4). A take whose turn it is not leaves
the state (log 2). -/
def Obligations.ArbiterTakesInOrder : Prop :=
  ∀ s : State,
    (¬ s.eventsMayStart →
      exec .tileEventTake s = .next s ∧ exec .expiryTake s = .next s ∧ exec .injectTake s = .next s) ∧
    (s.engine.expiry = [] → exec .expiryTake s = .next s) ∧
    (s.engine.expiry ≠ [] → exec .injectTake s = .next s ∧ exec .tileEventTake s = .next s) ∧
    (s.engine.inject = none → exec .injectTake s = .next s) ∧
    (s.engine.inject ≠ none → exec .tileEventTake s = .next s) ∧
    (s.armA.fifo = [] → s.armB.fifo = [] → exec .tileEventTake s = .next s) ∧
    (s.eventsMayStart → s.engine.expiry = [] → s.engine.inject = none → ∀ i r rest, (s.arm i).fifo = r :: rest →
      (i ≠ s.engine.lastServed ∨ (s.arm (ArmId.other i)).fifo = []) →
      ∃ t, exec .tileEventTake s = .next t ∧ t.engine.lastServed = i ∧ t.engine.inFlight = none ∧
        (s.asides = [] → (t.arm i).fifo = rest ∧ (t.arm (ArmId.other i)).fifo = (s.arm (ArmId.other i)).fifo))

/-- The three event items when no rule is ENABLED and no other block does anything inside the item: the item is taken from
its place, nothing fires, and an ECHO with fired count 0 is placed for an echo position or with unclaimed echo on; an
expiry whose quest says FAIL ends that quest FAILED, TIMED-OUT, with its notice and without a scan (R47, R78, R79, R110,
R119, R120, R124, R128, R129; that an item takes its own steps of other blocks out of the list is log 4). -/
def Obligations.EventsWithNoEnabledRule : Prop :=
  ∀ s : State, s.eventsMayStart →
    ((∀ i, s.rule i ≠ .enabled) → s.asides = [] →
      (∀ i r rest, s.engine.expiry = [] → s.engine.inject = none → (s.arm i).fifo = r :: rest →
        (i ≠ s.engine.lastServed ∨ (s.arm (ArmId.other i)).fifo = []) →
        exec .tileEventTake s = .next ((((s.withArm i { s.arm i with fifo := rest }).withEngine
          { s.engine with lastServed := i }).withNotices { s.notices with
            events := s.notices.events ++
              (if (s.mapRec r.arm r.position).echo = true ∨ s.engine.unclaimedEcho = true then [⟨.tile r, 0⟩]
               else []) }).withMeanwhile s.meanwhile.tail)) ∧
      (∀ c, s.engine.expiry = [] → s.engine.inject = some c →
        exec .injectTake s = .next (((s.withEngine { s.engine with inject := none }).withNotices { s.notices with
          events := s.notices.events ++ (if s.engine.unclaimedEcho = true then [⟨.injected c, 0⟩] else []) }).withMeanwhile
            s.meanwhile.tail)) ∧
      (∀ q rest, s.engine.expiry = q :: rest → (s.quest q).definition.onTimeout = .event →
        exec .expiryTake s = .next (((s.withEngine { s.engine with expiry := rest }).withNotices { s.notices with
          events := s.notices.events ++ (if s.engine.unclaimedEcho = true then [⟨.timer q, 0⟩] else []) }).withMeanwhile
            s.meanwhile.tail))) ∧
    (∀ q rest, s.engine.expiry = q :: rest → q ∉ rest → (s.quest q).definition.onTimeout = .fail →
      exec .expiryTake s = .next ((((s.withEngine { s.engine with
          expiry := rest,
          quests := s.engine.quests.set q { s.quest q with state := .failed, endReason := .timedOut } }).withTimer q
            ⟨false, s.timers[q].remaining⟩).notify (.failed q .timedOut)).withMeanwhile s.meanwhile.tail))

/-- A rule matches an event exactly when five tests pass: the trigger kind is the event's, or TILE-ANY for a tile event;
the place is ANY or the event's zone, tile, quest or code; the piece filter is ANY or fits the piece the event carries, by
its id, its player's seat, the turn seat or its neutrality; the quest gate, if any, is ACTIVE and at its stage; and the
guard, if any, holds of a COUNT-CMP of the home quest's counter or of the score with the operand (R88, R89, R111 to
R113). -/
def Obligations.RuleMatchesExactlyWhenItsTestsPass : Prop :=
  ∀ (r : RuleRecord) (ev : Event) (s : State), ruleMatches r ev s = true ↔
    ((∃ x, ev = .tile x ∧ (r.trigger = .tileAny ∨ (r.trigger = .press ∧ x.event = .press) ∨
        (r.trigger = .release ∧ x.event = .release) ∨ (r.trigger = .place ∧ ∃ p, x.event = .place p) ∨
        (r.trigger = .lift ∧ ∃ p, x.event = .lift p))) ∨
      (r.trigger = .timer ∧ ∃ q, ev = .timer q) ∨ (r.trigger = .injected ∧ ∃ c, ev = .injected c)) ∧
    (r.place = .any ∨
      (∃ x, ev = .tile x ∧ (r.place = .zone x.zone ∨ r.place = .tile (tileIndex x.arm x.position))) ∨
      (∃ q, ev = .timer q ∧ r.place = .quest q) ∨ (∃ c, ev = .injected c ∧ r.place = .code c)) ∧
    (r.piece = .any ∨ ∃ x p, ev = .tile x ∧ (x.event = .place p ∨ x.event = .lift p) ∧
      (r.piece = .piece p.id ∨ (∃ n, p.seat = .player n ∧ (r.piece = .seat n ∨ (r.piece = .turnSeat ∧ n = s.engine.turn))) ∨
        (p.seat = .neutral ∧ r.piece = .neutral))) ∧
    (∀ g, r.gate = some g → (s.quest g.quest).state = .active ∧ ∀ st, g.stage = some st → (s.quest g.quest).stage = st) ∧
    (r.guard.source = .none ∨
      ∃ a : Half, condHolds r.guard.condition (guardFlags a r.guard.operand) = true ∧
        ((∃ q c, r.home = some q ∧ r.guard.source = .counter c ∧ a = (s.quest q).counters[c]) ∨
          (∃ n, r.guard.source = .seatScore n ∧ a.toNat = (s.engine.scores[n]).value) ∨
          (r.guard.source = .turnScore ∧ a.toNat = (s.engine.scores[s.engine.turn]).value)))

/-- An event item that scans, be its event a tile's, a quest timer's or an injected one: the ENABLED rules that match fire
in ascending index, each on the state the scan has reached, a chain lets the scan go on and the fourth fired rule ends it;
every fetch is checked; and at the end an ECHO with the fired count is placed for an echo position, and with unclaimed
echo on when no rule has fired, else none. While an item is in flight the other blocks' commands have their effect and the
engine's have none (R110, R114, R116, R119, R123, R128 to R130, R144, R145). A fetched record that R104 would refuse does
not match: R110 says it of a record that RAW-WRITE stored, and of one that three or more upsets have made so it is the
model's choice (log 34). That the steps of other blocks inside an item are data of the state, and that none falls between
the read of a rule's state and the fetch of its entry, is the model's choice too (log 4). -/
def Obligations.ScanFiresTheMatchingRulesInOrder : Prop :=
  (∀ (s taken : State) (c : Instr) (ev : Event), s.eventsMayStart → s.Takes c ev taken →
    ∃ (u now : State) (n : Nat), Scans s.asides ev 0 0 taken u n ∧ n ≤ 4 ∧ now = during s.asides .echo u ∧
      ((∃ r, ev = .tile r ∧ (now.mapRec r.arm r.position).echo = true) ∨ (n = 0 ∧ now.engine.unclaimedEcho = true) →
        exec c s = .next ((now.withEngine { now.engine with inFlight := none }).placeEcho ⟨ev, n⟩)) ∧
      ((∀ r, ev = .tile r → (now.mapRec r.arm r.position).echo = false) →
        (n = 0 → now.engine.unclaimedEcho = false) →
        exec c s = .next (now.withEngine { now.engine with inFlight := none }))) ∧
  ∀ (c : Instr) (s : State), s.engine.inFlight ≠ none → s.rstnLow = false → c ≠ .powerOn → c ≠ .resetLine →
    exec c s = .next (besides c s)

/-- The actions of a fired rule run in list order, each on the state as it stands when it is reached. A home-quest action
is one of the counter, SET-IF, stage, QUEST-COMPLETE, QUEST-FAIL and timer kinds, or any with a condition. On an IDLE home
quest it raises RULE-FAULT QUEST-UNDEFINED with its place in the list, which abandons the rest; on one that is LOADED or
has ended it is skipped; on an ACTIVE one it is performed when its condition holds, SET-IF whatever its condition, and
skipped otherwise. An action that is no home-quest action is performed whatever the home quest. A performance that faults
raises its code's RULE-FAULT and abandons the rest. QUEST-COMPLETE, QUEST-FAIL, TIMER-START and TIMER-STOP have the
effects of their rules (R65, R69, R70, R76, R77, R114, R115, R130, R131, R134). -/
def Obligations.ActionsRunInOrderOnTheirHomeQuest : Prop :=
  ∀ (asides : List Aside) (s now : State) (ev : Event) (rule : Fin 256) (home : Option (Fin 16)) (n : Nat) (a : Action)
    (rest : List Action), now = during asides (.action rule n) s →
    runActions asides ev rule home n s [] = s ∧
    (a.isHome = true ↔ a.condition ≠ 0 ∨ (∃ op c o, a.kind = .count op c o) ∨ (∃ c, a.kind = .setIf c) ∨
      a.kind = .stageAdvance ∨ (∃ st, a.kind = .stageSet st) ∨ a.kind = .questComplete ∨ a.kind = .questFail ∨
      (∃ ticks, a.kind = .timerStart ticks) ∨ a.kind = .timerStop) ∧
    (a.isHome = false ∨ (∃ q, home = some q ∧ (now.quest q).state = .active ∧
        (condHolds a.condition (now.quest q).flags = true ∨ ∃ c, a.kind = .setIf c)) →
      (∀ t, performAction now ev home a = .done t →
        runActions asides ev rule home n s (a :: rest) = runActions asides ev rule home (n + 1) t rest) ∧
      (∀ code, performAction now ev home a = .fault code →
        runActions asides ev rule home n s (a :: rest) = now.raise (.ruleFault rule n code))) ∧
    ∀ q, home = some q →
      (a.isHome = true → (now.quest q).state = .idle →
        runActions asides ev rule home n s (a :: rest) = now.raise (.ruleFault rule n .questUndefined)) ∧
      (a.isHome = true → (now.quest q).state = .loaded ∨ (now.quest q).state = .complete ∨
          (now.quest q).state = .failed ∨ ((now.quest q).state = .active ∧
            condHolds a.condition (now.quest q).flags = false ∧ ∀ c, a.kind ≠ .setIf c) →
        runActions asides ev rule home n s (a :: rest) = runActions asides ev rule home (n + 1) now rest) ∧
      (∀ ticks, a.kind = .timerStart ticks → performAction now ev home a =
        .done ((now.withTimer q ⟨true, ticks⟩).withEngine
          { now.engine with expiry := now.engine.expiry.filter (· != q) })) ∧
      (a.kind = .timerStop → performAction now ev home a =
        .done ((now.withTimer q ⟨false, now.timers[q].remaining⟩).withEngine
          { now.engine with expiry := now.engine.expiry.filter (· != q) })) ∧
      (a.kind = .questComplete → performAction now ev home a =
        .done (((now.withTimer q ⟨false, now.timers[q].remaining⟩).withEngine { now.engine with
          expiry := now.engine.expiry.filter (· != q),
          quests := now.engine.quests.set q { now.quest q with state := .complete, endReason := .completed } }).notify
            (.complete q))) ∧
      (a.kind = .questFail → performAction now ev home a =
        .done (((now.withTimer q ⟨false, now.timers[q].remaining⟩).withEngine { now.engine with
          expiry := now.engine.expiry.filter (· != q),
          quests := now.engine.quests.set q { now.quest q with state := .failed, endReason := .failedByRule } }).notify
            (.failed q .failedByRule)))

/-- A COUNT action on the home quest: the exact result e of R82's table with its C and V; COUNT-CMP and COUNT-TEST keep
the counter and read N and Z from the wrapped result, the others store e held within the clamp, or wrapped without one,
with N and Z from what is stored and K when the clamp changed e; counter and five flags are written together and nothing
else changes. SET-IF stores 1 or 0, as its condition holds on the home quest's flags or not, by the same rule of the clamp and
of N, Z and K, and keeps V and C. The sixteen conditions test the flags R87 names, and on a comparison's flags they read as
the comparisons of a with b (R80 to R85, R87, R88). -/
def Obligations.CounterActionsCompareAndClamp : Prop :=
  (∀ (s : State) (ev : Event) (q : Fin 16) (c : Fin 4) (o : CountOperand) (op : CountOp) (cond : Fin 16) (a b : Half)
      (e : Int), a = (s.quest q).counters[c] →
    (∀ v, o = .constant v → b = v) → (∀ j, o = .counter j → b = (s.quest q).counters[j]) →
    (op = .load → e = b.toInt) → (op = .add → e = a.toInt + b.toInt) → (op = .sub ∨ op = .cmp → e = a.toInt - b.toInt) →
    (op = .and ∨ op = .test → e = (a &&& b).toInt) → (op = .or → e = (a ||| b).toInt) →
    (op = .xor → e = (a ^^^ b).toInt) →
    ∃ (v : Half) (f : Flags), performAction s ev (some q) ⟨.count op c o, cond⟩ =
        .done (s.withQuest q { s.quest q with counters := (s.quest q).counters.set c v, flags := f }) ∧
      (f.c = true ↔ (op = .add ∧ 65536 ≤ a.toNat + b.toNat) ∨ ((op = .sub ∨ op = .cmp) ∧ a.toNat < b.toNat)) ∧
      (f.v = true ↔ e < -32768 ∨ 32767 < e) ∧
      (op = .cmp ∨ op = .test → v = a ∧ f.k = false ∧ (f.n = true ↔ (e.bmod 65536) < 0) ∧
        (f.z = true ↔ e.bmod 65536 = 0)) ∧
      (op ≠ .cmp → op ≠ .test → (f.n = true ↔ v.toInt < 0) ∧ (f.z = true ↔ v = 0) ∧
        (((s.quest q).definition.counters[c]).clamp = none → v.toInt = e.bmod 65536 ∧ f.k = false) ∧
        ∀ k, ((s.quest q).definition.counters[c]).clamp = some k → k.lo.toInt ≤ k.hi.toInt →
          v.toInt = max k.lo.toInt (min k.hi.toInt e) ∧ (f.k = true ↔ v.toInt ≠ e))) ∧
  (∀ (s : State) (ev : Event) (q : Fin 16) (c : Fin 4) (cond : Fin 16) (e : Int),
    e = (if condHolds cond (s.quest q).flags = true then 1 else 0) →
    ∃ (v : Half) (f : Flags), performAction s ev (some q) ⟨.setIf c, cond⟩ =
        .done (s.withQuest q { s.quest q with counters := (s.quest q).counters.set c v, flags := f }) ∧
      f.c = (s.quest q).flags.c ∧ f.v = (s.quest q).flags.v ∧ (f.n = true ↔ v.toInt < 0) ∧ (f.z = true ↔ v = 0) ∧
      (((s.quest q).definition.counters[c]).clamp = none → v.toInt = e ∧ f.k = false) ∧
      ∀ k, ((s.quest q).definition.counters[c]).clamp = some k → k.lo.toInt ≤ k.hi.toInt →
        v.toInt = max k.lo.toInt (min k.hi.toInt e) ∧ (f.k = true ↔ v.toInt ≠ e)) ∧
  (∀ f : Flags, condHolds 0 f = true ∧ condHolds 1 f = f.z ∧ condHolds 2 f = !f.z ∧ condHolds 3 f = f.n ∧
    condHolds 4 f = !f.n ∧ condHolds 5 f = f.c ∧ condHolds 6 f = !f.c ∧ condHolds 7 f = f.v ∧ condHolds 8 f = !f.v ∧
    (condHolds 9 f = true ↔ f.c = false ∧ f.z = false) ∧ (condHolds 10 f = true ↔ f.c = true ∨ f.z = true) ∧
    (condHolds 11 f = true ↔ f.n = f.v) ∧ (condHolds 12 f = true ↔ f.n ≠ f.v) ∧
    (condHolds 13 f = true ↔ f.z = false ∧ f.n = f.v) ∧ (condHolds 14 f = true ↔ f.z = true ∨ f.n ≠ f.v) ∧
    condHolds 15 f = f.k) ∧
  ∀ a b : Half, (condHolds 1 (guardFlags a b) = true ↔ a = b) ∧ (condHolds 2 (guardFlags a b) = true ↔ a ≠ b) ∧
    (condHolds 3 (guardFlags a b) = true ↔ (a - b).toInt < 0) ∧ (condHolds 4 (guardFlags a b) = true ↔ 0 ≤ (a - b).toInt) ∧
    (condHolds 7 (guardFlags a b) = true ↔ a.toInt - b.toInt < -32768 ∨ 32767 < a.toInt - b.toInt) ∧
    (condHolds 8 (guardFlags a b) = true ↔ -32768 ≤ a.toInt - b.toInt ∧ a.toInt - b.toInt ≤ 32767) ∧
    (condHolds 5 (guardFlags a b) = true ↔ a.toNat < b.toNat) ∧
    (condHolds 6 (guardFlags a b) = true ↔ b.toNat ≤ a.toNat) ∧
    (condHolds 9 (guardFlags a b) = true ↔ b.toNat < a.toNat) ∧
    (condHolds 10 (guardFlags a b) = true ↔ a.toNat ≤ b.toNat) ∧
    (condHolds 11 (guardFlags a b) = true ↔ b.toInt ≤ a.toInt) ∧
    (condHolds 12 (guardFlags a b) = true ↔ a.toInt < b.toInt) ∧
    (condHolds 13 (guardFlags a b) = true ↔ b.toInt < a.toInt) ∧
    (condHolds 14 (guardFlags a b) = true ↔ a.toInt ≤ b.toInt) ∧ condHolds 0 (guardFlags a b) = true ∧
    condHolds 15 (guardFlags a b) = false

/-- SCORE-ADD and SCORE-SUB leave the lesser of s + n and 9999, the greater of s − n and 0, with the mark set exactly
when the limit cut the result, and one SCORE notice of the score as left; a selector that resolves to no seat in play
skips the action without a notice (R91 to R94). -/
def Obligations.ScoreActionsAddAndSubtractWithinRange : Prop :=
  ∀ (s : State) (ev : Event) (home : Option (Fin 16)) (sel : SeatSelector) (n : Fin 10000) (cond : Fin 16),
    (∀ seat, resolveSeat s sel ev home = some seat → ∃ up down : Score,
      performAction s ev home ⟨.scoreAdd sel n, cond⟩ = .done ((s.withEngine { s.engine with
        scores := s.engine.scores.set seat up }).notify (.score seat up)) ∧
      performAction s ev home ⟨.scoreSub sel n, cond⟩ = .done ((s.withEngine { s.engine with
        scores := s.engine.scores.set seat down }).notify (.score seat down)) ∧
      up.value = min ((s.engine.scores[seat]).value + n.val) 9999 ∧
      (up.saturated = true ↔ 9999 < (s.engine.scores[seat]).value + n.val) ∧
      down.value = (s.engine.scores[seat]).value - n.val ∧
      (down.saturated = true ↔ (s.engine.scores[seat]).value < n.val)) ∧
    (resolveSeat s sel ev home = none → performAction s ev home ⟨.scoreAdd sel n, cond⟩ = .done s ∧
      performAction s ev home ⟨.scoreSub sel n, cond⟩ = .done s) ∧
    (∀ seat, sel = .seat seat → (resolveSeat s sel ev home = some seat ↔ seat.val < s.engine.seatCount) ∧
      (resolveSeat s sel ev home = none ↔ s.engine.seatCount ≤ seat.val)) ∧
    (sel = .turn → resolveSeat s sel ev home = some s.engine.turn) ∧
    (∀ seat, sel = .pieceOwner → (resolveSeat s sel ev home = some seat ↔
      (∃ p, ev.piece = some p ∧ p.seat = .player seat) ∧ seat.val < s.engine.seatCount)) ∧
    ∀ seat, sel = .questOwner → (resolveSeat s sel ev home = some seat ↔
      (∃ q, home = some q ∧ (s.quest q).definition.owner = some seat) ∧ seat.val < s.engine.seatCount)

/-- TURN-NEXT moves to the next seat modulo the seat count, TURN-SET clamps to the last seat in play; STAGE-ADVANCE
moves up by one and completes a quest at its final stage, STAGE-SET clamps to the final stage; QUEST-START starts a
LOADED quest whose prerequisite is met, at stage 0 with initial counters, flags 0 and its start timer, if any, running and
its listed expiry gone, skips an ACTIVE one and faults otherwise; SIGNAL places its notice with the home quest and the
code and changes nothing else; RULE-ENABLE and RULE-DISABLE move the named rule's state by R118's table, without a fault or
a notice (R66 to R68, R76, R97, R98, R118, R132). -/
def Obligations.TurnStageStartSignalAndRuleActions : Prop :=
  ∀ (s : State) (ev : Event) (home : Option (Fin 16)) (cond : Fin 16),
    (1 ≤ s.engine.seatCount → s.engine.seatCount ≤ 6 → ∀ seat : Fin 6, ∃ m n : Fin 6,
      performAction s ev home ⟨.turnNext, cond⟩ = .done ((s.withEngine { s.engine with turn := m }).notify (.turn m)) ∧
      m.val = (s.engine.turn.val + 1) % s.engine.seatCount ∧
      performAction s ev home ⟨.turnSet seat, cond⟩ =
        .done ((s.withEngine { s.engine with turn := n }).notify (.turn n)) ∧
      n.val = min seat.val (s.engine.seatCount - 1)) ∧
    (∀ q st : Fin 16,
      (∀ next : Fin 16, (s.quest q).stage < (s.quest q).definition.finalStage →
        next.val = (s.quest q).stage.val + 1 → performAction s ev (some q) ⟨.stageAdvance, cond⟩ =
          .done ((s.withQuest q { s.quest q with stage := next }).notify (.stage q next))) ∧
      ((s.quest q).definition.finalStage ≤ (s.quest q).stage →
        performAction s ev (some q) ⟨.stageAdvance, cond⟩ = performAction s ev (some q) ⟨.questComplete, cond⟩) ∧
      performAction s ev (some q) ⟨.stageSet st, cond⟩ =
        .done ((s.withQuest q { s.quest q with stage := min st (s.quest q).definition.finalStage }).notify
          (.stage q (min st (s.quest q).definition.finalStage)))) ∧
    (∀ k : Fin 16,
      ((s.quest k).state = .idle → performAction s ev home ⟨.questStart k, cond⟩ = .fault .questUndefined) ∧
      ((s.quest k).state = .active → performAction s ev home ⟨.questStart k, cond⟩ = .done s) ∧
      ((s.quest k).state = .complete ∨ (s.quest k).state = .failed →
        performAction s ev home ⟨.questStart k, cond⟩ = .fault .notStartable) ∧
      (∀ p, (s.quest k).state = .loaded → (s.quest k).definition.prerequisite = some p →
        (s.quest p).state ≠ .complete → performAction s ev home ⟨.questStart k, cond⟩ = .fault .prereqUnmet) ∧
      ((s.quest k).state = .loaded → (∀ p, (s.quest k).definition.prerequisite = some p →
          (s.quest p).state = .complete) →
        ∃ started : State,
          started = s.withQuest k {
            definition := (s.quest k).definition, state := .active, stage := 0,
            counters := (s.quest k).definition.counters.map (·.initial),
            flags := ⟨false, false, false, false, false⟩, endReason := .none } ∧
          ((s.quest k).definition.startTimer = none →
            performAction s ev home ⟨.questStart k, cond⟩ = .done (started.notify (.questStarted k))) ∧
          ∀ ticks, (s.quest k).definition.startTimer = some ticks →
            performAction s ev home ⟨.questStart k, cond⟩ = .done (((started.withTimer k ⟨true, ticks⟩).withEngine
              { started.engine with expiry := s.engine.expiry.filter (· != k) }).notify (.questStarted k)))) ∧
    (∀ code : Byte, performAction s ev home ⟨.signal code, cond⟩ =
      .done (s.withNotices { s.notices with quests := s.notices.quests ++ [.signal home code] })) ∧
    ∀ i : Fin 256,
      performAction s ev home ⟨.ruleEnable i, cond⟩ =
        .done (s.withRule i (if s.rule i = .disabled ∨ s.rule i = .spent then .enabled else s.rule i)) ∧
      performAction s ev home ⟨.ruleDisable i, cond⟩ =
        .done (s.withRule i (if s.rule i = .enabled ∨ s.rule i = .spent then .disabled else s.rule i))

/-- An effect action's entries: at the tail of the queue of the tile's arm when the position is PRESENT and its arm
ENUMERATING or RUNNING, else dropped; for a zone or ALL, one entry at each arm that is ENUMERATING or RUNNING; SOURCE
of an event that is no tile event places nothing; the performance is the same whatever the condition (R51 to R54). -/
def Obligations.EffectActionsReachTheirArms : Prop :=
  ∀ (s : State) (e : Effect) (ev : Event) (home : Option (Fin 16)) (cond : Fin 16),
    (∀ (i : ArmId) (p : Fin 32) (target : EffectTarget),
      (target = .tile (tileIndex i p) ∨ ∃ r, target = .source ∧ ev = .tile r ∧ r.arm = i ∧ r.position = p) →
      ((s.presence i p).state = .present → (s.arm i).phase = .enumerating ∨ (s.arm i).phase = .running →
        performAction s ev home ⟨.effect e target, cond⟩ = .done (s.withArm i { s.arm i with
          effects := (s.arm i).effects ++ [⟨.tile p, e⟩] })) ∧
      ((s.presence i p).state ≠ .present ∨ (s.arm i).phase = .off ∨ (s.arm i).phase = .faulted →
        performAction s ev home ⟨.effect e target, cond⟩ = .done s)) ∧
    ((∀ r, ev ≠ .tile r) → performAction s ev home ⟨.effect e .source, cond⟩ = .done s) ∧
    ∀ (addr : EffectAddr) (target : EffectTarget),
      ((∃ z, addr = .zone z ∧ target = .zone z) ∨ (addr = .all ∧ target = .all)) →
      ∃ t, performAction s ev home ⟨.effect e target, cond⟩ = .done t ∧ t = (s.withArm .a t.armA).withArm .b t.armB ∧
        ∀ i, t.arm i = { s.arm i with
          effects := (s.arm i).effects ++
            (if (s.arm i).phase = .enumerating ∨ (s.arm i).phase = .running then [⟨addr, e⟩] else []) }

/-! ### The arm pairs -/

/-- Where the rotation is brought to, behind a frame that was no poll (settle) and at any other moment (bring), which are
the same unless an ASSIGN or an effect frame goes first. A rotation reaches the first position from its own on that the arm
visits in that state, passing over the others, and a visit begins there with no event taken; while a frame goes first, the
next position is visited but none is passed over. When a wait between rotations is over, the next rotation starts at
position 0 with a new record; one with nothing to visit ends at once, its counter advances, and the next one waits. A
rotation past position 31 that does not fault the arm ends: its counter advances, from 15 to 0, and the next rotation
starts, at once or when its wait is over. An enumeration past position 31 makes the arm RUNNING with counter 1 and starts
its first rotation, even when no position was found PRESENT (R12, R27, R28, R34, R38, R42; logs 6 and 7). A wait ends with
no other effect before the rotation is over, and with none at all on an arm that is not RUNNING (log 2). -/
def Obligations.RotationReachesTheNextPosition : Prop :=
  ∀ (s : State) (i : ArmId), s.rstnLow = false → s.pairFree i →
    (∀ p, (s.arm i).active = true → (s.arm i).pass = .reaching → (s.arm i).position ≤ p → s.visited i p →
      (∀ q, (s.arm i).position ≤ q → q < p → ¬ s.visited i q) →
      ∃ t : State, t = s.withArm i { s.arm i with
          presence := s.visitBegun i p, position := p, pass := .visiting false } ∧
        s.settle i = t ∧ (¬ s.frameGoesFirst i ∨ p = (s.arm i).position → s.bring i = t) ∧
        (s.frameGoesFirst i → p ≠ (s.arm i).position → s.bring i = s)) ∧
    (s.rotationStands i → s.bring i = s) ∧
    (∀ polled, (s.arm i).pass = .visiting polled → s.settle i = s) ∧
    (¬ s.frameGoesFirst i → s.bring i = s.settle i) ∧
    ((s.arm i).effects = [] → (∀ q, (s.presence i q).assign = false) → exec (.effectFrameSend i) s = .next (s.bring i)) ∧
    ((s.arm i).phase = .running → (s.arm i).pass = .between →
      (s.waitsToStart i → s.settle i = s) ∧
      (¬ s.waitsToStart i → s.rotationBegun (s.settle i) i (s.arm i).counter False ∧
        s.rotationBegun (s.bring i) i (s.arm i).counter (s.frameGoesFirst i)) ∧
      ((s.arm i).doze = true → (s.arm i).startMark ≠ none →
        ∃ t, exec (.dozeWaitEnd i) s = .next t ∧ s.rotationBegun t i (s.arm i).counter (s.frameGoesFirst i)) ∧
      ((s.arm i).doze = false → (s.arm i).startMark ≠ none →
        ∃ t, exec (.emptyRotationWaitEnd i) s = .next t ∧
          s.rotationBegun t i (s.arm i).counter (s.frameGoesFirst i))) ∧
    ((s.arm i).phase = .running → s.nothingLeft i →
      ¬ ((s.arm i).record.presentAtStart = true ∧ (s.arm i).record.completed = true ∧
        (s.arm i).record.answered = false) →
      ∀ (next : Fin 16) (waiting : State), next.val = ((s.arm i).counter.val + 1) % 16 →
        waiting = s.withArm i { s.arm i with counter := next, pass := .between } →
        (s.waitsToStart i → s.settle i = waiting ∧
          (¬ s.frameGoesFirst i ∨ (s.arm i).pass = .ended → s.bring i = waiting)) ∧
        (¬ s.waitsToStart i → s.rotationBegun (s.settle i) i next False ∧
          (¬ s.frameGoesFirst i ∨ (s.arm i).pass = .ended →
            s.rotationBegun (s.bring i) i next (s.frameGoesFirst i)))) ∧
    ((s.arm i).phase = .enumerating → s.nothingLeft i → s.rotationBegun (s.settle i) i 1 False ∧
      (¬ s.frameGoesFirst i ∨ (s.arm i).pass = .ended → s.rotationBegun (s.bring i) i 1 (s.frameGoesFirst i))) ∧
    ((s.arm i).phase = .running → ∀ dozed emptied : State,
      dozed = s.withArm i { s.arm i with startMark := (s.arm i).startMark.map fun m => ⟨true, m.emptyOver⟩ } →
      emptied = s.withArm i { s.arm i with startMark := (s.arm i).startMark.map fun m => ⟨m.dozeOver, true⟩ } →
      ((s.arm i).pass = .between →
        exec (.dozeWaitEnd i) s = .next (dozed.bring i) ∧ exec (.emptyRotationWaitEnd i) s = .next (emptied.bring i)) ∧
      ((s.arm i).pass ≠ .between →
        exec (.dozeWaitEnd i) s = .next dozed ∧ exec (.emptyRotationWaitEnd i) s = .next emptied)) ∧
    ((s.arm i).phase ≠ .running →
      exec (.dozeWaitEnd i) s = .next s ∧ exec (.emptyRotationWaitEnd i) s = .next s)

/-- A rotation that had a PRESENT position at its start, polled one, and had no valid answer from one faults the arm at
its end: presence reset, line and effect queue released, counts, FIFO and doze flag kept, ARM-FAULT raised behind a
TILE-LOST of the last miss, the other arm untouched (R14, R20, R38, R39). With no other frame to go first, or behind the
visit to position 31, it ends at the end of the poll: here a poll of a PRESENT position whose window closes, and every other
outcome in the three statements of answers and misses. With an ASSIGN or effect frame to go first, the positions that are
passed over wait: on the free pair the lowest position owed an ASSIGN has it sent, else the head of the effect queue goes,
and the rotation ends at the end of that frame, or of the one under way; a rotation with nothing left to visit and no such
frame ends at the next frame opportunity, or at the end of the window of a poll that a TILE-WRITE ended (R7, R10, R25, R27
and the worked sequence "the arm B cable pulled"; log 7). -/
def Obligations.SilentRotationFaultsTheArm : Prop :=
  (∀ (s faulted : State) (i : ArmId) (p : Fin 32) (frame : List Byte), s.rstnLow = false → (s.arm i).phase = .running →
    (s.arm i).line = .poll ⟨p, false, true⟩ frame → (s.arm i).position = p → (s.presence i p).state = .present →
    (s.presence i p).misses ≤ 3 → (s.arm i).record.presentAtStart = true → (s.arm i).record.answered = false →
    (∀ q, p < q → ¬ s.visited i q) →
    faulted = (s.withArm i (s.faultedArm i (s.arm i))).withNotices { s.notices with
      alerts := raiseAlert (if 2 ≤ (s.presence i p).misses then raiseAlert s.notices.alerts (.tileLost i p)
        else s.notices.alerts) (.armFault i) } →
    (¬ s.frameGoesFirst i ∨ p.val = 31 → exec (.replyWindowClose i) s = .next faulted) ∧
    (∀ e rest, (s.arm i).effects = e :: rest → (s.arm i).alternation = .poll → (∀ q, (s.presence i q).assign = false) →
      p.val < 31 →
      ∃ u v, exec (.replyWindowClose i) s = .next u ∧ (u.arm i).phase = .running ∧ (u.arm i).effects = e :: rest ∧
        (u.arm i).position.val = p.val + 1 ∧ (u.arm i).pass = .reaching ∧ exec (.pollSend i) u = .next u ∧
        exec (.effectFrameSend i) u = .next v ∧ (v.arm i).line = .effect (effectFrame e) true ∧
        exec (.effectFrameEnd i) v = .next faulted)) ∧
  ∀ (s faulted : State) (i : ArmId), s.rstnLow = false → (s.arm i).phase = .running →
    (s.arm i).record = ⟨true, true, false⟩ →
    s.nothingLeft i →
    faulted = (s.withArm i (s.faultedArm i (s.arm i))).withNotices { s.notices with
      alerts := raiseAlert s.notices.alerts (.armFault i) } →
    (s.pairFree i → s.settle i = faulted ∧ (¬ s.frameGoesFirst i ∨ (s.arm i).pass = .ended → s.bring i = faulted)) ∧
    (∀ frame held, (s.arm i).line = .effect frame held → exec (.effectFrameEnd i) s = .next faulted) ∧
    (∀ q frame again, (s.arm i).line = .assign q frame again → exec (.assignEnd i) s = .next faulted) ∧
    (s.pairFree i → ¬ s.frameGoesFirst i ∨ (s.arm i).pass = .ended →
      exec (.pollSend i) s = .next faulted ∧ exec (.effectFrameSend i) s = .next faulted ∧
      exec (.assignSend i) s = .next faulted ∧ (∀ bytes, (s.arm i).line = .lapsed →
        exec (.pollAnswer i bytes) s = .next faulted ∧ exec (.replyWindowClose i) s = .next faulted)) ∧
    (s.pairFree i → (s.arm i).pass = .reaching →
      (∀ q, (s.presence i q).assign = true → (∀ q', q' < q → (s.presence i q').assign = false) →
        exec (.pollSend i) s = .next s ∧ exec (.effectFrameSend i) s = .next s ∧
        ∃ v, exec (.assignSend i) s = .next v ∧
          v = s.withArm i { s.arm i with line := .assign q (assignFrame q (s.mapRec i q).zone) false } ∧
          exec (.assignEnd i) v = .next faulted) ∧
      (∀ e rest, (∀ q, (s.presence i q).assign = false) → (s.arm i).effects = e :: rest → (s.arm i).alternation = .poll →
        exec (.pollSend i) s = .next s ∧ exec (.assignSend i) s = .next s ∧
        ∃ v, exec (.effectFrameSend i) s = .next v ∧
          v = s.withArm i { s.arm i with line := .effect (effectFrame e) true, alternation := .effect } ∧
          exec (.effectFrameEnd i) v = .next faulted))

/-- At a frame opportunity the rotation is first brought to where it stands. During a visit, between rotations while the
wait lasts, and before a position that is passed over behind another frame, the lowest position owed an ASSIGN then goes
first, with its zone. Else, during a visit with the FIFO below the high mark, a poll is ready, and the effect queue and the
poll take turns; with no poll ready the head of the effect queue goes, and with nothing to send nothing is sent. The poll
carries greeting for an UNKNOWN position and the last accepted toggle; an effect frame is LIGHT with its pattern, SOUND with
its clip or DARK, to the position, to 32 plus the zone, or to 63 for ALL (R10, R12, R22, R25, R26, R27, R41, R42, R56, R179,
R180; logs 7 and 8). -/
def Obligations.FrameOpportunitySendsOneFrame : Prop :=
  ∀ (s : State) (i : ArmId), s.rstnLow = false → (s.arm i).active = true → s.pairFree i →
    (∀ c ∈ [Instr.pollSend i, .effectFrameSend i, .assignSend i], exec c s = exec c (s.bring i)) ∧
    (s.rotationStands i → ∀ ready : Prop,
      (ready ↔ (∃ polled, (s.arm i).pass = .visiting polled) ∧ (s.arm i).fifo.length < s.engine.highMark) →
      (∀ p, (s.presence i p).assign = true → (∀ q, q < p → (s.presence i q).assign = false) →
        exec (.assignSend i) s = .next (s.withArm i { s.arm i with
          line := .assign p [0x20, byteOf p.val, byteOf (s.mapRec i p).zone.val,
            0x20 ^^^ byteOf p.val ^^^ byteOf (s.mapRec i p).zone.val ^^^ 0x5A] false }) ∧
        exec (.effectFrameSend i) s = .next s ∧ exec (.pollSend i) s = .next s) ∧
      ((∀ p, (s.presence i p).assign = false) → exec (.assignSend i) s = .next s ∧
        (∀ e rest, (s.arm i).effects = e :: rest → (s.arm i).alternation = .poll ∨ ¬ ready →
          exec (.pollSend i) s = .next s ∧
          ∀ addr : Byte, (match e.addr with
              | .tile p => addr = byteOf p.val
              | .zone z => addr = byteOf (32 + z.val)
              | .all => addr = 63) →
            exec (.effectFrameSend i) s = .next (s.withArm i { s.arm i with
              line := .effect (match e.effect with
                | .light pattern => [0x30, addr, pattern, 0x30 ^^^ addr ^^^ pattern ^^^ 0x5A]
                | .sound clip => [0x40, addr, clip, 0x40 ^^^ addr ^^^ clip ^^^ 0x5A]
                | .dark => [0x50, addr, 0x50 ^^^ addr ^^^ 0x5A]) true,
              alternation := .effect })) ∧
        (((s.arm i).effects = [] ∨ (s.arm i).alternation = .effect) → ready →
          exec (.effectFrameSend i) s = .next s ∧
          ∀ (p : Fin 32) (head : Byte), (s.arm i).position = p →
            head = 0x10 + (if (s.presence i p).state = .unknown then 8 else 0) +
              (if (s.presence i p).toggle = true then 1 else 0) →
            exec (.pollSend i) s = .next (s.withArm i { s.arm i with
              line := .poll ⟨p, (s.presence i p).state == .unknown, (s.presence i p).state == .present⟩
                [head, byteOf p.val, head ^^^ byteOf p.val ^^^ 0x5A],
              alternation := .poll, pass := .visiting true, rotationPolled := true })) ∧
        ((s.arm i).effects = [] → ¬ ready →
          exec (.effectFrameSend i) s = .next s ∧ exec (.pollSend i) s = .next s)))

/-- The end of an effect or ASSIGN frame: an effect entry that still stands leaves the head of its queue; an ASSIGN clears
its flag, unless the zone changed while it was sent; the pair is free, and the rotation is brought to where it stands, which
during a visit is that visit. A tile frame outside every reply window counts STRAY and changes nothing else; one during a
poll or another frame, or on an arm that receives nothing, is lost uncounted. After a poll that a TILE-WRITE ended, the
answer is discarded uncounted and the window's close frees the pair. Behind each of these too the rotation is brought to
where it stands, so that one that has ended is over before the next frame is chosen (R7, R10, R24, R25, R27, R36, R56, R57;
logs 7, 8 and 20). An answer and the close of a window with no window open, and the end of a frame that is not in
transmission, change nothing (logs 2 and 21). -/
def Obligations.FrameEndsAndStrayFrames : Prop :=
  ∀ (s : State) (i : ArmId) (bytes : List LineByte), s.rstnLow = false →
    (∀ (frame : List Byte) (held : Bool) (u : State), (s.arm i).line = .effect frame held →
      u = s.withArm i { s.arm i with
        line := .free, effects := if held = true then (s.arm i).effects.tail else (s.arm i).effects } →
      exec (.effectFrameEnd i) s = .next (u.settle i) ∧
      ∀ polled, (s.arm i).pass = .visiting polled → exec (.effectFrameEnd i) s = .next u) ∧
    (∀ (p : Fin 32) (frame : List Byte) (again : Bool) (u : State), (s.arm i).line = .assign p frame again →
      u = s.withArm i { s.arm i with
        line := .free, presence := (s.arm i).presence.set p { s.presence i p with
          assign := again && (s.presence i p).assign } } →
      exec (.assignEnd i) s = .next (u.settle i) ∧
      ∀ polled, (s.arm i).pass = .visiting polled → exec (.assignEnd i) s = .next u) ∧
    ((s.arm i).active = true → s.pairFree i → ∀ u, u = s.withArm i { s.arm i with
        line := .free, stray := min ((s.arm i).stray + 1) (max (s.arm i).stray 255) } →
      exec (.strayFrame i bytes) s = .next (u.bring i) ∧
      ∀ polled, (s.arm i).pass = .visiting polled → exec (.strayFrame i bytes) s = .next u) ∧
    ((s.arm i).active = false ∨ ¬ s.pairFree i → exec (.strayFrame i bytes) s = .next s) ∧
    ((s.arm i).line = .lapsed → ∀ u, u = s.withArm i { s.arm i with line := .free } →
      exec (.pollAnswer i bytes) s = .next (u.bring i) ∧ exec (.replyWindowClose i) s = .next (u.bring i) ∧
      ∀ polled, (s.arm i).pass = .visiting polled →
        exec (.pollAnswer i bytes) s = .next u ∧ exec (.replyWindowClose i) s = .next u) ∧
    ((s.arm i).line ≠ .lapsed → (∀ poll frame, (s.arm i).line ≠ .poll poll frame) →
      exec (.pollAnswer i bytes) s = .next s ∧ exec (.replyWindowClose i) s = .next s) ∧
    ((∀ frame held, (s.arm i).line ≠ .effect frame held) → exec (.effectFrameEnd i) s = .next s) ∧
    ((∀ p frame again, (s.arm i).line ≠ .assign p frame again) → exec (.assignEnd i) s = .next s)

/-- The six checks of R23 in their order, each failure with the error it counts: a bad stop bit is FRAMING, a kind or
length that is none of R21's is SHAPE, a wrong check byte is CHECK, another address than the polled one is STRAY, a body
value out of range is SHAPE, and another answer than HELLO to a greeting poll is SHAPE. An answer is accepted exactly when
it is one of the frames of R180 from the polled position that passes them, with any value in the head bits that R179
leaves to the receiver to ignore (R21, R23, R179, R180). -/
def Obligations.AnswersAreExactlyTheFramesOfTheTable : Prop :=
  (∀ (poll : Poll) (bytes : List LineByte) (vs : List Byte) (kind : Nat) (stops shape check address body greeting : Prop),
    vs = bytes.map (·.value) → kind = (byteAt vs 0).toNat / 16 →
    (stops ↔ ∀ b ∈ bytes, b.stopOk = true) →
    (shape ↔ (vs.length = 3 ∧ (kind = 8 ∨ kind = 10 ∨ kind = 11)) ∨ (vs.length = 4 ∧ kind = 9) ∨
      (vs.length = 5 ∧ (kind = 12 ∨ kind = 13))) →
    (check ↔ vs.foldl (· ^^^ ·) 0 = 0x5A) → (address ↔ (byteAt vs 1).toNat = poll.position.val) →
    (body ↔ (kind = 9 → byteAt vs 2 = 1 ∨ byteAt vs 2 = 2) ∧
      (kind = 12 ∨ kind = 13 →
        (byteAt vs 2).toNat ≤ 63 ∧ ((byteAt vs 3).toNat ≤ 5 ∨ (byteAt vs 3).toNat = 7))) →
    (greeting ↔ poll.greeting = true → kind = 9) →
    (¬ stops → judgeAnswer poll bytes = .error .framing) ∧
    (stops ∧ ¬ shape → judgeAnswer poll bytes = .error .shape) ∧
    (stops ∧ shape ∧ ¬ check → judgeAnswer poll bytes = .error .check) ∧
    (stops ∧ shape ∧ check ∧ ¬ address → judgeAnswer poll bytes = .error .stray) ∧
    (stops ∧ shape ∧ check ∧ address ∧ ¬ body → judgeAnswer poll bytes = .error .shape) ∧
    (stops ∧ shape ∧ check ∧ address ∧ body ∧ ¬ greeting → judgeAnswer poll bytes = .error .shape) ∧
    (stops ∧ shape ∧ check ∧ address ∧ body ∧ greeting → ∃ ans, judgeAnswer poll bytes = .ok ans)) ∧
  ∀ (poll : Poll) (bytes : List LineByte) (ans : Answer),
    judgeAnswer poll bytes = .ok ans ↔
      (poll.greeting = true → ∃ k, ans = .hello k) ∧
      ∃ spare : Byte, spare &&& (match ans with | .event _ _ _ => 0xF5 | _ => 0xF0) = 0 ∧
        bytes = goodBytes (armFrame (ans.code.1 ||| ans.bits ||| spare) (byteOf poll.position.val) ans.code.2)

/-- An event answer to an ordinary poll of a PRESENT tile, or of an ABSENT one, which it brings back: a changed toggle is
a new event, which joins the FIFO with the map's zone or counts SHAPE when the map's kind cannot produce it, and becomes
the last accepted one; the same toggle is a duplicate and only clears the miss count. A new event ends doze on both
arms. The rotation record takes the poll's outcome. With more set and fewer than four events taken the visit goes on, else
it ends, and the rotation is brought to where it then stands, as the statement of the rotation says (R15, R27 to R31, R38,
R43). Where the rotation ends there and its fault test succeeds, the arm is FAULTED behind all this, with ARM-FAULT as the
last alert (R38, R39; log 7). -/
def Obligations.EventAnswersAreTakenOnce : Prop :=
  ∀ (s : State) (i : ArmId) (p : Fin 32) (fromPresent : Bool) (frame : List Byte) (e : TileEvent) (toggle more : Bool)
    (fresh fits taken goesOn : Prop) (record : RotationRecord), s.rstnLow = false → (s.arm i).phase = .running →
    (s.arm i).line = .poll ⟨p, false, fromPresent⟩ frame → (s.arm i).position = p → (s.arm i).pass = .visiting true →
    ((s.presence i p).state = .present ∨ (s.presence i p).state = .absent) →
    (fresh ↔ toggle ≠ (s.presence i p).toggle) → (fits ↔ e.source = (s.mapRec i p).kind) → (taken ↔ fresh ∧ fits) →
    record = ⟨(s.arm i).record.presentAtStart, (s.arm i).record.completed || fromPresent,
      (s.arm i).record.answered || fromPresent⟩ →
    (goesOn ↔ (more = true ∧ (s.presence i p).taken < 3) ∨ s.goesOnBehind i p record (s.presence i p).assign) →
    ∃ t, exec (.pollAnswer i (goodBytes (Answer.frame (.event e toggle more) p))) s = .next t ∧
      t = ((s.withArm .a t.armA).withArm .b t.armB).withNotices { s.notices with alerts := t.notices.alerts } ∧
      (taken → (t.arm i).fifo = (s.arm i).fifo ++ [⟨i, p, e, (s.mapRec i p).zone⟩]) ∧
      (¬ taken → (t.arm i).fifo = (s.arm i).fifo) ∧
      (fresh ∧ ¬ fits → (t.arm i).shape = min ((s.arm i).shape + 1) (max (s.arm i).shape 255)) ∧
      (¬ (fresh ∧ ¬ fits) → (t.arm i).shape = (s.arm i).shape) ∧
      (t.arm i).framing = (s.arm i).framing ∧ (t.arm i).check = (s.arm i).check ∧ (t.arm i).stray = (s.arm i).stray ∧
      (taken ∧ (s.arm i).doze = true → t.armA.doze = false ∧ t.armB.doze = false ∧
        t.arm (ArmId.other i) = (s.arm (ArmId.other i)).dozeOff) ∧
      (¬ (taken ∧ (s.arm i).doze = true) → (t.arm i).doze = (s.arm i).doze ∧
        t.arm (ArmId.other i) = s.arm (ArmId.other i)) ∧
      (∀ back heard, back = (if (s.presence i p).state = .absent then raiseAlert s.notices.alerts (.tileBack i p)
          else s.notices.alerts) →
        (taken ∧ (s.arm i).doze = true → heard = raiseAlert back .wake) →
        (¬ (taken ∧ (s.arm i).doze = true) → heard = back) →
        (goesOn → t.notices.alerts = heard) ∧ (¬ goesOn → t.notices.alerts = raiseAlert heard (.armFault i)) ∧
        ∀ (x : Arm) (u : State),
          x = { s.arm i with
            line := .free, record := record, fifo := (t.arm i).fifo, shape := (t.arm i).shape, doze := (t.arm i).doze,
            presence := (s.arm i).presence.set p { s.presence i p with
              state := .present, misses := 0, toggle := toggle,
              taken := if (s.presence i p).taken < 4 then (s.presence i p).taken + 1 else (s.presence i p).taken } } →
          u = (((s.withArm .a t.armA).withArm .b t.armB).withArm i x).withNotices { s.notices with alerts := heard } →
          (more = true → (s.presence i p).taken < 3 → t = u) ∧
          (more = false ∨ 3 ≤ (s.presence i p).taken → t = (u.leftBehind i p x).bring i)) ∧
      (goesOn →
        (t.arm i).line = .free ∧ (t.arm i).phase = .running ∧ (t.arm i).effects = (s.arm i).effects ∧
        (t.presence i p).state = .present ∧ (t.presence i p).misses = 0 ∧ (t.presence i p).toggle = toggle ∧
        (t.presence i p).assign = (s.presence i p).assign ∧ s.othersKept t i p ∧
        (more = true → (s.presence i p).taken < 3 → (t.arm i).pass = .visiting true ∧ (t.arm i).position = p ∧
          (t.presence i p).taken = (s.presence i p).taken + 1) ∧
        (more = false ∨ 3 ≤ (s.presence i p).taken → s.visitOver t i p ∧
          s.waitsBehind t i p record (s.presence i p).assign)) ∧
      (¬ goesOn → t.arm i = s.faultedArm i { s.arm i with
        fifo := (t.arm i).fifo, shape := (t.arm i).shape, doze := (t.arm i).doze })

/-- A HELLO decides the presence of the polled position, whatever its state: of the map's kind it makes it PRESENT with
an ASSIGN owed; of the other kind it makes it MISMATCH; either sets the miss count to 0 and the last accepted toggle to 1,
with the alert that R11's table names for the state before (R5, R9, R10, R11, R12, R17, R29). An IDLE answer clears the
miss count of a PRESENT position and makes an ABSENT one PRESENT with TILE-BACK, and an answer other than HELLO from a
MISMATCH position clears its miss count and is otherwise ignored; toggle and pending ASSIGN stand (R13, R15, R16, R31).
The rotation record takes the poll's outcome. Each of these answers ends the visit, and the rotation or enumeration is
brought to where it then stands, as the statement of the rotation says (R11, R27, R28, R31, R34, R38). Where the rotation
ends there and its fault test succeeds, the arm is FAULTED behind all this, with ARM-FAULT as the last alert (R38, R39;
log 7). -/
def Obligations.HelloAndIdleDecideThePresence : Prop :=
  ∀ (s : State) (i : ArmId) (poll : Poll) (frame : List Byte) (r : PresenceRec),
    s.rstnLow = false → (s.arm i).active = true → (s.arm i).line = .poll poll frame →
    (s.arm i).position = poll.position → s.presence i poll.position = r → r.state ≠ .excluded →
    ∀ (ans : Answer) (after : PresenceRec) (heard : List AlertEntry) (record : RotationRecord) (goesOn : Prop),
      (poll.greeting = true → ∃ k, ans = .hello k) →
      ((∃ k, ans = .hello k) ∨ (ans = .idle ∧ (r.state = .present ∨ r.state = .absent)) ∨ r.state = .mismatch) →
      (∀ k, ans = .hello k → k = (s.mapRec i poll.position).kind → after = ⟨.present, 0, true, 0, true⟩ ∧
        heard = (if r.state = .absent ∨ r.state = .mismatch then
          raiseAlert s.notices.alerts (.tileBack i poll.position) else s.notices.alerts)) →
      (∀ k, ans = .hello k → k ≠ (s.mapRec i poll.position).kind → after = ⟨.mismatch, 0, true, 0, false⟩ ∧
        heard = (if r.state = .mismatch then s.notices.alerts
          else raiseAlert s.notices.alerts (.tileMismatch i poll.position))) →
      (ans = .idle → r.state ≠ .mismatch → after = { r with state := .present, misses := 0 } ∧
        heard = (if r.state = .absent then raiseAlert s.notices.alerts (.tileBack i poll.position)
          else s.notices.alerts)) →
      ((∀ k, ans ≠ .hello k) → r.state = .mismatch → after = { r with misses := 0 } ∧ heard = s.notices.alerts) →
      record = ⟨(s.arm i).record.presentAtStart, (s.arm i).record.completed || poll.fromPresent,
        (s.arm i).record.answered || poll.fromPresent⟩ →
      (goesOn ↔ s.goesOnBehind i poll.position record after.assign) →
      ∃ t, exec (.pollAnswer i (goodBytes (Answer.frame ans poll.position))) s = .next t ∧
        t = (s.withArm i (t.arm i)).withNotices { s.notices with alerts := t.notices.alerts } ∧
        t = ((s.withNotices { s.notices with alerts := heard }).leftBehind i poll.position { s.arm i with
          record := record, presence := (s.arm i).presence.set poll.position after }).bring i ∧
        (goesOn →
          t.notices.alerts = heard ∧ (t.arm i).fifo = (s.arm i).fifo ∧ (t.arm i).effects = (s.arm i).effects ∧
          (t.arm i).line = .free ∧ (t.arm i).framing = (s.arm i).framing ∧ (t.arm i).check = (s.arm i).check ∧
          (t.arm i).shape = (s.arm i).shape ∧ (t.arm i).stray = (s.arm i).stray ∧ (t.arm i).doze = (s.arm i).doze ∧
          s.visitOver t i poll.position ∧ s.waitsBehind t i poll.position record after.assign ∧
          s.othersKept t i poll.position ∧
          t.presence i poll.position = { after with taken := (t.presence i poll.position).taken } ∧
          ((∃ k, ans = .hello k) → (t.presence i poll.position).taken = 0)) ∧
        (¬ goesOn → t.arm i = s.faultedArm i (s.arm i) ∧ t.notices.alerts = raiseAlert heard (.armFault i))

/-- A window that closes without an answer and an answer that fails a check of R23 are both a miss, the answer with one
count more on the error it failed: the miss count rises to at most 3, at which a PRESENT position becomes ABSENT with
TILE-LOST and its ASSIGN dropped, and an UNKNOWN one ABSENT without an alert; below that an UNKNOWN position is polled
again in the same visit, and every other miss ends it. The rotation record takes the poll's outcome, and behind the visit
the rotation or enumeration is brought to where it then stands, as the statement of the rotation says (R12, R13, R14, R22,
R23, R27, R28, R32, R34, R37, R38). Where the rotation ends there and its fault test succeeds, the arm is FAULTED behind all
this, with ARM-FAULT as the last alert (R38, R39; log 7). -/
def Obligations.MissesAreCountedAndLoseTheTile : Prop :=
  ∀ (s : State) (i : ArmId) (poll : Poll) (frame : List Byte) (bytes : List LineByte) (error : LineError)
    (r after : PresenceRec) (heard : List AlertEntry) (record : RotationRecord) (goesOn : Prop),
    s.rstnLow = false → (s.arm i).active = true → (s.arm i).line = .poll poll frame →
    (s.arm i).position = poll.position → (s.arm i).pass = .visiting true → s.presence i poll.position = r →
    r.state ≠ .excluded → r.misses ≤ 3 → judgeAnswer poll bytes = .error error →
    (r.misses < 2 → after = { r with misses := r.misses + 1 }) →
    (2 ≤ r.misses → r.state = .unknown ∨ r.state = .absent → after = { r with state := .absent, misses := 3 }) →
    (2 ≤ r.misses → r.state = .mismatch → after = { r with misses := 3 }) →
    (2 ≤ r.misses → r.state = .present → after = { r with state := .absent, misses := 3, assign := false, taken := 0 }) →
    heard = (if 2 ≤ r.misses ∧ r.state = .present then raiseAlert s.notices.alerts (.tileLost i poll.position)
      else s.notices.alerts) →
    record = ⟨(s.arm i).record.presentAtStart, (s.arm i).record.completed || poll.fromPresent,
      (s.arm i).record.answered⟩ →
    (goesOn ↔ (r.state = .unknown ∧ r.misses < 2) ∨ s.goesOnBehind i poll.position record after.assign) →
    ∃ t u, exec (.replyWindowClose i) s = .next t ∧ exec (.pollAnswer i bytes) s = .next u ∧
      t = (s.withArm i (t.arm i)).withNotices { s.notices with alerts := t.notices.alerts } ∧
      u = t.withArm i ((t.arm i).countError error) ∧
      (∀ (x : Arm) (v : State),
        x = { s.arm i with
          line := .free, record := record, presence := (s.arm i).presence.set poll.position after } →
        v = s.withNotices { s.notices with alerts := heard } →
        (r.state = .unknown → r.misses < 2 → t = v.withArm i x) ∧
        (¬ (r.state = .unknown ∧ r.misses < 2) → t = (v.leftBehind i poll.position x).bring i)) ∧
      (goesOn →
        t.notices.alerts = heard ∧ (t.arm i).line = .free ∧ (t.arm i).fifo = (s.arm i).fifo ∧
        (t.arm i).effects = (s.arm i).effects ∧ (t.arm i).framing = (s.arm i).framing ∧
        (t.arm i).check = (s.arm i).check ∧ (t.arm i).shape = (s.arm i).shape ∧ (t.arm i).stray = (s.arm i).stray ∧
        (t.arm i).doze = (s.arm i).doze ∧ s.othersKept t i poll.position ∧
        t.presence i poll.position = { after with taken := (t.presence i poll.position).taken } ∧
        (r.state = .unknown ∧ r.misses < 2 → (t.arm i).pass = .visiting true ∧ (t.arm i).position = poll.position) ∧
        (¬ (r.state = .unknown ∧ r.misses < 2) → s.visitOver t i poll.position ∧
          s.waitsBehind t i poll.position record after.assign)) ∧
      (¬ goesOn → t.arm i = s.faultedArm i (s.arm i) ∧ t.notices.alerts = raiseAlert heard (.armFault i))

end
end

