-- ==== Sys2Proof/Laws/State.lean ====
section
/-! SUPPORT. One lemma per field per update of the state, so that no proof unfolds a record update. -/

namespace Sys2Proof.Machine

open Sys2Proof

variable (s : State)

/-! ### `withTileMap` -/

@[simp] theorem State.withTileMap_armA (x : Vector TileRec 64) : (s.withTileMap x).armA = s.armA := rfl
@[simp] theorem State.withTileMap_armB (x : Vector TileRec 64) : (s.withTileMap x).armB = s.armB := rfl
@[simp] theorem State.withTileMap_tileMap (x : Vector TileRec 64) : (s.withTileMap x).tileMap = x := rfl
@[simp] theorem State.withTileMap_engine (x : Vector TileRec 64) : (s.withTileMap x).engine = s.engine := rfl
@[simp] theorem State.withTileMap_timers (x : Vector TileRec 64) : (s.withTileMap x).timers = s.timers := rfl
@[simp] theorem State.withTileMap_memory (x : Vector TileRec 64) : (s.withTileMap x).memory = s.memory := rfl
@[simp] theorem State.withTileMap_notices (x : Vector TileRec 64) : (s.withTileMap x).notices = s.notices := rfl
@[simp] theorem State.withTileMap_uplink (x : Vector TileRec 64) : (s.withTileMap x).uplink = s.uplink := rfl
@[simp] theorem State.withTileMap_handler (x : Vector TileRec 64) : (s.withTileMap x).handler = s.handler := rfl
@[simp] theorem State.withTileMap_rstnLow (x : Vector TileRec 64) : (s.withTileMap x).rstnLow = s.rstnLow := rfl
@[simp] theorem State.withTileMap_pending (x : Vector TileRec 64) : (s.withTileMap x).pending = s.pending := rfl
@[simp] theorem State.withTileMap_meanwhile (x : Vector TileRec 64) : (s.withTileMap x).meanwhile = s.meanwhile := rfl
@[simp] theorem State.withTileMap_tileWrites (x : Vector TileRec 64) : (s.withTileMap x).tileWrites = s.tileWrites := rfl
@[simp] theorem State.withTileMap_arm (x : Vector TileRec 64) (i : ArmId) : (s.withTileMap x).arm i = s.arm i := by cases i <;> rfl

/-! ### `withEngine` -/

@[simp] theorem State.withEngine_armA (x : Engine) : (s.withEngine x).armA = s.armA := rfl
@[simp] theorem State.withEngine_armB (x : Engine) : (s.withEngine x).armB = s.armB := rfl
@[simp] theorem State.withEngine_tileMap (x : Engine) : (s.withEngine x).tileMap = s.tileMap := rfl
@[simp] theorem State.withEngine_engine (x : Engine) : (s.withEngine x).engine = x := rfl
@[simp] theorem State.withEngine_timers (x : Engine) : (s.withEngine x).timers = s.timers := rfl
@[simp] theorem State.withEngine_memory (x : Engine) : (s.withEngine x).memory = s.memory := rfl
@[simp] theorem State.withEngine_notices (x : Engine) : (s.withEngine x).notices = s.notices := rfl
@[simp] theorem State.withEngine_uplink (x : Engine) : (s.withEngine x).uplink = s.uplink := rfl
@[simp] theorem State.withEngine_handler (x : Engine) : (s.withEngine x).handler = s.handler := rfl
@[simp] theorem State.withEngine_rstnLow (x : Engine) : (s.withEngine x).rstnLow = s.rstnLow := rfl
@[simp] theorem State.withEngine_pending (x : Engine) : (s.withEngine x).pending = s.pending := rfl
@[simp] theorem State.withEngine_meanwhile (x : Engine) : (s.withEngine x).meanwhile = s.meanwhile := rfl
@[simp] theorem State.withEngine_tileWrites (x : Engine) : (s.withEngine x).tileWrites = s.tileWrites := rfl
@[simp] theorem State.withEngine_arm (x : Engine) (i : ArmId) : (s.withEngine x).arm i = s.arm i := by cases i <;> rfl

/-! ### `withTimers` -/

@[simp] theorem State.withTimers_armA (x : Vector Timer 16) : (s.withTimers x).armA = s.armA := rfl
@[simp] theorem State.withTimers_armB (x : Vector Timer 16) : (s.withTimers x).armB = s.armB := rfl
@[simp] theorem State.withTimers_tileMap (x : Vector Timer 16) : (s.withTimers x).tileMap = s.tileMap := rfl
@[simp] theorem State.withTimers_engine (x : Vector Timer 16) : (s.withTimers x).engine = s.engine := rfl
@[simp] theorem State.withTimers_timers (x : Vector Timer 16) : (s.withTimers x).timers = x := rfl
@[simp] theorem State.withTimers_memory (x : Vector Timer 16) : (s.withTimers x).memory = s.memory := rfl
@[simp] theorem State.withTimers_notices (x : Vector Timer 16) : (s.withTimers x).notices = s.notices := rfl
@[simp] theorem State.withTimers_uplink (x : Vector Timer 16) : (s.withTimers x).uplink = s.uplink := rfl
@[simp] theorem State.withTimers_handler (x : Vector Timer 16) : (s.withTimers x).handler = s.handler := rfl
@[simp] theorem State.withTimers_rstnLow (x : Vector Timer 16) : (s.withTimers x).rstnLow = s.rstnLow := rfl
@[simp] theorem State.withTimers_pending (x : Vector Timer 16) : (s.withTimers x).pending = s.pending := rfl
@[simp] theorem State.withTimers_meanwhile (x : Vector Timer 16) : (s.withTimers x).meanwhile = s.meanwhile := rfl
@[simp] theorem State.withTimers_tileWrites (x : Vector Timer 16) : (s.withTimers x).tileWrites = s.tileWrites := rfl
@[simp] theorem State.withTimers_arm (x : Vector Timer 16) (i : ArmId) : (s.withTimers x).arm i = s.arm i := by cases i <;> rfl

/-! ### `withMemory` -/

@[simp] theorem State.withMemory_armA (x : RuleMemory) : (s.withMemory x).armA = s.armA := rfl
@[simp] theorem State.withMemory_armB (x : RuleMemory) : (s.withMemory x).armB = s.armB := rfl
@[simp] theorem State.withMemory_tileMap (x : RuleMemory) : (s.withMemory x).tileMap = s.tileMap := rfl
@[simp] theorem State.withMemory_engine (x : RuleMemory) : (s.withMemory x).engine = s.engine := rfl
@[simp] theorem State.withMemory_timers (x : RuleMemory) : (s.withMemory x).timers = s.timers := rfl
@[simp] theorem State.withMemory_memory (x : RuleMemory) : (s.withMemory x).memory = x := rfl
@[simp] theorem State.withMemory_notices (x : RuleMemory) : (s.withMemory x).notices = s.notices := rfl
@[simp] theorem State.withMemory_uplink (x : RuleMemory) : (s.withMemory x).uplink = s.uplink := rfl
@[simp] theorem State.withMemory_handler (x : RuleMemory) : (s.withMemory x).handler = s.handler := rfl
@[simp] theorem State.withMemory_rstnLow (x : RuleMemory) : (s.withMemory x).rstnLow = s.rstnLow := rfl
@[simp] theorem State.withMemory_pending (x : RuleMemory) : (s.withMemory x).pending = s.pending := rfl
@[simp] theorem State.withMemory_meanwhile (x : RuleMemory) : (s.withMemory x).meanwhile = s.meanwhile := rfl
@[simp] theorem State.withMemory_tileWrites (x : RuleMemory) : (s.withMemory x).tileWrites = s.tileWrites := rfl
@[simp] theorem State.withMemory_arm (x : RuleMemory) (i : ArmId) : (s.withMemory x).arm i = s.arm i := by cases i <;> rfl

/-! ### `withNotices` -/

@[simp] theorem State.withNotices_armA (x : Notices) : (s.withNotices x).armA = s.armA := rfl
@[simp] theorem State.withNotices_armB (x : Notices) : (s.withNotices x).armB = s.armB := rfl
@[simp] theorem State.withNotices_tileMap (x : Notices) : (s.withNotices x).tileMap = s.tileMap := rfl
@[simp] theorem State.withNotices_engine (x : Notices) : (s.withNotices x).engine = s.engine := rfl
@[simp] theorem State.withNotices_timers (x : Notices) : (s.withNotices x).timers = s.timers := rfl
@[simp] theorem State.withNotices_memory (x : Notices) : (s.withNotices x).memory = s.memory := rfl
@[simp] theorem State.withNotices_notices (x : Notices) : (s.withNotices x).notices = x := rfl
@[simp] theorem State.withNotices_uplink (x : Notices) : (s.withNotices x).uplink = s.uplink := rfl
@[simp] theorem State.withNotices_handler (x : Notices) : (s.withNotices x).handler = s.handler := rfl
@[simp] theorem State.withNotices_rstnLow (x : Notices) : (s.withNotices x).rstnLow = s.rstnLow := rfl
@[simp] theorem State.withNotices_pending (x : Notices) : (s.withNotices x).pending = s.pending := rfl
@[simp] theorem State.withNotices_meanwhile (x : Notices) : (s.withNotices x).meanwhile = s.meanwhile := rfl
@[simp] theorem State.withNotices_tileWrites (x : Notices) : (s.withNotices x).tileWrites = s.tileWrites := rfl
@[simp] theorem State.withNotices_arm (x : Notices) (i : ArmId) : (s.withNotices x).arm i = s.arm i := by cases i <;> rfl

/-! ### `withUplink` -/

@[simp] theorem State.withUplink_armA (x : Uplink) : (s.withUplink x).armA = s.armA := rfl
@[simp] theorem State.withUplink_armB (x : Uplink) : (s.withUplink x).armB = s.armB := rfl
@[simp] theorem State.withUplink_tileMap (x : Uplink) : (s.withUplink x).tileMap = s.tileMap := rfl
@[simp] theorem State.withUplink_engine (x : Uplink) : (s.withUplink x).engine = s.engine := rfl
@[simp] theorem State.withUplink_timers (x : Uplink) : (s.withUplink x).timers = s.timers := rfl
@[simp] theorem State.withUplink_memory (x : Uplink) : (s.withUplink x).memory = s.memory := rfl
@[simp] theorem State.withUplink_notices (x : Uplink) : (s.withUplink x).notices = s.notices := rfl
@[simp] theorem State.withUplink_uplink (x : Uplink) : (s.withUplink x).uplink = x := rfl
@[simp] theorem State.withUplink_handler (x : Uplink) : (s.withUplink x).handler = s.handler := rfl
@[simp] theorem State.withUplink_rstnLow (x : Uplink) : (s.withUplink x).rstnLow = s.rstnLow := rfl
@[simp] theorem State.withUplink_pending (x : Uplink) : (s.withUplink x).pending = s.pending := rfl
@[simp] theorem State.withUplink_meanwhile (x : Uplink) : (s.withUplink x).meanwhile = s.meanwhile := rfl
@[simp] theorem State.withUplink_tileWrites (x : Uplink) : (s.withUplink x).tileWrites = s.tileWrites := rfl
@[simp] theorem State.withUplink_arm (x : Uplink) (i : ArmId) : (s.withUplink x).arm i = s.arm i := by cases i <;> rfl

/-! ### `withHandler` -/

@[simp] theorem State.withHandler_armA (x : Handler) : (s.withHandler x).armA = s.armA := rfl
@[simp] theorem State.withHandler_armB (x : Handler) : (s.withHandler x).armB = s.armB := rfl
@[simp] theorem State.withHandler_tileMap (x : Handler) : (s.withHandler x).tileMap = s.tileMap := rfl
@[simp] theorem State.withHandler_engine (x : Handler) : (s.withHandler x).engine = s.engine := rfl
@[simp] theorem State.withHandler_timers (x : Handler) : (s.withHandler x).timers = s.timers := rfl
@[simp] theorem State.withHandler_memory (x : Handler) : (s.withHandler x).memory = s.memory := rfl
@[simp] theorem State.withHandler_notices (x : Handler) : (s.withHandler x).notices = s.notices := rfl
@[simp] theorem State.withHandler_uplink (x : Handler) : (s.withHandler x).uplink = s.uplink := rfl
@[simp] theorem State.withHandler_handler (x : Handler) : (s.withHandler x).handler = x := rfl
@[simp] theorem State.withHandler_rstnLow (x : Handler) : (s.withHandler x).rstnLow = s.rstnLow := rfl
@[simp] theorem State.withHandler_pending (x : Handler) : (s.withHandler x).pending = s.pending := rfl
@[simp] theorem State.withHandler_meanwhile (x : Handler) : (s.withHandler x).meanwhile = s.meanwhile := rfl
@[simp] theorem State.withHandler_tileWrites (x : Handler) : (s.withHandler x).tileWrites = s.tileWrites := rfl
@[simp] theorem State.withHandler_arm (x : Handler) (i : ArmId) : (s.withHandler x).arm i = s.arm i := by cases i <;> rfl

/-! ### `withPending` -/

@[simp] theorem State.withPending_armA (x : List Instr) : (s.withPending x).armA = s.armA := rfl
@[simp] theorem State.withPending_armB (x : List Instr) : (s.withPending x).armB = s.armB := rfl
@[simp] theorem State.withPending_tileMap (x : List Instr) : (s.withPending x).tileMap = s.tileMap := rfl
@[simp] theorem State.withPending_engine (x : List Instr) : (s.withPending x).engine = s.engine := rfl
@[simp] theorem State.withPending_timers (x : List Instr) : (s.withPending x).timers = s.timers := rfl
@[simp] theorem State.withPending_memory (x : List Instr) : (s.withPending x).memory = s.memory := rfl
@[simp] theorem State.withPending_notices (x : List Instr) : (s.withPending x).notices = s.notices := rfl
@[simp] theorem State.withPending_uplink (x : List Instr) : (s.withPending x).uplink = s.uplink := rfl
@[simp] theorem State.withPending_handler (x : List Instr) : (s.withPending x).handler = s.handler := rfl
@[simp] theorem State.withPending_rstnLow (x : List Instr) : (s.withPending x).rstnLow = s.rstnLow := rfl
@[simp] theorem State.withPending_pending (x : List Instr) : (s.withPending x).pending = x := rfl
@[simp] theorem State.withPending_meanwhile (x : List Instr) : (s.withPending x).meanwhile = s.meanwhile := rfl
@[simp] theorem State.withPending_tileWrites (x : List Instr) : (s.withPending x).tileWrites = s.tileWrites := rfl
@[simp] theorem State.withPending_arm (x : List Instr) (i : ArmId) : (s.withPending x).arm i = s.arm i := by cases i <;> rfl

/-! ### `withMeanwhile` -/

@[simp] theorem State.withMeanwhile_armA (x : List (List Aside)) : (s.withMeanwhile x).armA = s.armA := rfl
@[simp] theorem State.withMeanwhile_armB (x : List (List Aside)) : (s.withMeanwhile x).armB = s.armB := rfl
@[simp] theorem State.withMeanwhile_tileMap (x : List (List Aside)) : (s.withMeanwhile x).tileMap = s.tileMap := rfl
@[simp] theorem State.withMeanwhile_engine (x : List (List Aside)) : (s.withMeanwhile x).engine = s.engine := rfl
@[simp] theorem State.withMeanwhile_timers (x : List (List Aside)) : (s.withMeanwhile x).timers = s.timers := rfl
@[simp] theorem State.withMeanwhile_memory (x : List (List Aside)) : (s.withMeanwhile x).memory = s.memory := rfl
@[simp] theorem State.withMeanwhile_notices (x : List (List Aside)) : (s.withMeanwhile x).notices = s.notices := rfl
@[simp] theorem State.withMeanwhile_uplink (x : List (List Aside)) : (s.withMeanwhile x).uplink = s.uplink := rfl
@[simp] theorem State.withMeanwhile_handler (x : List (List Aside)) : (s.withMeanwhile x).handler = s.handler := rfl
@[simp] theorem State.withMeanwhile_rstnLow (x : List (List Aside)) : (s.withMeanwhile x).rstnLow = s.rstnLow := rfl
@[simp] theorem State.withMeanwhile_pending (x : List (List Aside)) : (s.withMeanwhile x).pending = s.pending := rfl
@[simp] theorem State.withMeanwhile_meanwhile (x : List (List Aside)) : (s.withMeanwhile x).meanwhile = x := rfl
@[simp] theorem State.withMeanwhile_tileWrites (x : List (List Aside)) : (s.withMeanwhile x).tileWrites = s.tileWrites := rfl
@[simp] theorem State.withMeanwhile_arm (x : List (List Aside)) (i : ArmId) : (s.withMeanwhile x).arm i = s.arm i := by cases i <;> rfl

/-! ### `withTileWrites` -/

@[simp] theorem State.withTileWrites_armA (x : Nat) : (s.withTileWrites x).armA = s.armA := rfl
@[simp] theorem State.withTileWrites_armB (x : Nat) : (s.withTileWrites x).armB = s.armB := rfl
@[simp] theorem State.withTileWrites_tileMap (x : Nat) : (s.withTileWrites x).tileMap = s.tileMap := rfl
@[simp] theorem State.withTileWrites_engine (x : Nat) : (s.withTileWrites x).engine = s.engine := rfl
@[simp] theorem State.withTileWrites_timers (x : Nat) : (s.withTileWrites x).timers = s.timers := rfl
@[simp] theorem State.withTileWrites_memory (x : Nat) : (s.withTileWrites x).memory = s.memory := rfl
@[simp] theorem State.withTileWrites_notices (x : Nat) : (s.withTileWrites x).notices = s.notices := rfl
@[simp] theorem State.withTileWrites_uplink (x : Nat) : (s.withTileWrites x).uplink = s.uplink := rfl
@[simp] theorem State.withTileWrites_handler (x : Nat) : (s.withTileWrites x).handler = s.handler := rfl
@[simp] theorem State.withTileWrites_rstnLow (x : Nat) : (s.withTileWrites x).rstnLow = s.rstnLow := rfl
@[simp] theorem State.withTileWrites_pending (x : Nat) : (s.withTileWrites x).pending = s.pending := rfl
@[simp] theorem State.withTileWrites_meanwhile (x : Nat) : (s.withTileWrites x).meanwhile = s.meanwhile := rfl
@[simp] theorem State.withTileWrites_tileWrites (x : Nat) : (s.withTileWrites x).tileWrites = x := rfl
@[simp] theorem State.withTileWrites_arm (x : Nat) (i : ArmId) : (s.withTileWrites x).arm i = s.arm i := by cases i <;> rfl

/-! ### `withArm` -/

@[simp] theorem State.withArm_a_armA (x : Arm) : (s.withArm .a x).armA = x := rfl
@[simp] theorem State.withArm_b_armA (x : Arm) : (s.withArm .b x).armA = s.armA := rfl
@[simp] theorem State.withArm_b_armB (x : Arm) : (s.withArm .b x).armB = x := rfl
@[simp] theorem State.withArm_a_armB (x : Arm) : (s.withArm .a x).armB = s.armB := rfl
@[simp] theorem State.withArm_tileMap (i : ArmId) (x : Arm) : (s.withArm i x).tileMap = s.tileMap := by cases i <;> rfl
@[simp] theorem State.withArm_engine (i : ArmId) (x : Arm) : (s.withArm i x).engine = s.engine := by cases i <;> rfl
@[simp] theorem State.withArm_timers (i : ArmId) (x : Arm) : (s.withArm i x).timers = s.timers := by cases i <;> rfl
@[simp] theorem State.withArm_memory (i : ArmId) (x : Arm) : (s.withArm i x).memory = s.memory := by cases i <;> rfl
@[simp] theorem State.withArm_notices (i : ArmId) (x : Arm) : (s.withArm i x).notices = s.notices := by cases i <;> rfl
@[simp] theorem State.withArm_uplink (i : ArmId) (x : Arm) : (s.withArm i x).uplink = s.uplink := by cases i <;> rfl
@[simp] theorem State.withArm_handler (i : ArmId) (x : Arm) : (s.withArm i x).handler = s.handler := by cases i <;> rfl
@[simp] theorem State.withArm_rstnLow (i : ArmId) (x : Arm) : (s.withArm i x).rstnLow = s.rstnLow := by cases i <;> rfl
@[simp] theorem State.withArm_pending (i : ArmId) (x : Arm) : (s.withArm i x).pending = s.pending := by cases i <;> rfl
@[simp] theorem State.withArm_meanwhile (i : ArmId) (x : Arm) : (s.withArm i x).meanwhile = s.meanwhile := by cases i <;> rfl
@[simp] theorem State.withArm_tileWrites (i : ArmId) (x : Arm) : (s.withArm i x).tileWrites = s.tileWrites := by cases i <;> rfl
@[simp] theorem State.withArm_arm_self (i : ArmId) (x : Arm) : (s.withArm i x).arm i = x := by cases i <;> rfl
theorem State.withArm_arm_ne (i j : ArmId) (x : Arm) (h : j ≠ i) : (s.withArm i x).arm j = s.arm j := by
  cases i <;> cases j <;> first | rfl | exact absurd rfl h
@[simp] theorem State.withArm_other (i : ArmId) (x : Arm) : (s.withArm i x).arm (ArmId.other i) = s.arm (ArmId.other i) := by
  cases i <;> rfl
@[simp] theorem State.withArm_withArm (i : ArmId) (x y : Arm) : (s.withArm i x).withArm i y = s.withArm i y := by
  cases i <;> rfl
@[simp] theorem State.withArm_self (i : ArmId) : s.withArm i (s.arm i) = s := by cases i <;> rfl

/-! ### Updates of one part of a block -/

@[simp] theorem State.raise_armA (al : Alert) : (s.raise al).armA = s.armA := rfl
@[simp] theorem State.raise_armB (al : Alert) : (s.raise al).armB = s.armB := rfl
@[simp] theorem State.raise_tileMap (al : Alert) : (s.raise al).tileMap = s.tileMap := rfl
@[simp] theorem State.raise_engine (al : Alert) : (s.raise al).engine = s.engine := rfl
@[simp] theorem State.raise_timers (al : Alert) : (s.raise al).timers = s.timers := rfl
@[simp] theorem State.raise_memory (al : Alert) : (s.raise al).memory = s.memory := rfl
@[simp] theorem State.raise_uplink (al : Alert) : (s.raise al).uplink = s.uplink := rfl
@[simp] theorem State.raise_handler (al : Alert) : (s.raise al).handler = s.handler := rfl
@[simp] theorem State.raise_rstnLow (al : Alert) : (s.raise al).rstnLow = s.rstnLow := rfl
@[simp] theorem State.raise_pending (al : Alert) : (s.raise al).pending = s.pending := rfl
@[simp] theorem State.raise_meanwhile (al : Alert) : (s.raise al).meanwhile = s.meanwhile := rfl
@[simp] theorem State.raise_tileWrites (al : Alert) : (s.raise al).tileWrites = s.tileWrites := rfl
@[simp] theorem State.raise_arm (al : Alert) (i : ArmId) : (s.raise al).arm i = s.arm i := by cases i <;> rfl

@[simp] theorem State.notify_armA (n : QuestNotice) : (s.notify n).armA = s.armA := rfl
@[simp] theorem State.notify_armB (n : QuestNotice) : (s.notify n).armB = s.armB := rfl
@[simp] theorem State.notify_tileMap (n : QuestNotice) : (s.notify n).tileMap = s.tileMap := rfl
@[simp] theorem State.notify_engine (n : QuestNotice) : (s.notify n).engine = s.engine := rfl
@[simp] theorem State.notify_timers (n : QuestNotice) : (s.notify n).timers = s.timers := rfl
@[simp] theorem State.notify_memory (n : QuestNotice) : (s.notify n).memory = s.memory := rfl
@[simp] theorem State.notify_uplink (n : QuestNotice) : (s.notify n).uplink = s.uplink := rfl
@[simp] theorem State.notify_handler (n : QuestNotice) : (s.notify n).handler = s.handler := rfl
@[simp] theorem State.notify_rstnLow (n : QuestNotice) : (s.notify n).rstnLow = s.rstnLow := rfl
@[simp] theorem State.notify_pending (n : QuestNotice) : (s.notify n).pending = s.pending := rfl
@[simp] theorem State.notify_meanwhile (n : QuestNotice) : (s.notify n).meanwhile = s.meanwhile := rfl
@[simp] theorem State.notify_tileWrites (n : QuestNotice) : (s.notify n).tileWrites = s.tileWrites := rfl
@[simp] theorem State.notify_arm (n : QuestNotice) (i : ArmId) : (s.notify n).arm i = s.arm i := by cases i <;> rfl

@[simp] theorem State.placeEcho_armA (e : Echo) : (s.placeEcho e).armA = s.armA := rfl
@[simp] theorem State.placeEcho_armB (e : Echo) : (s.placeEcho e).armB = s.armB := rfl
@[simp] theorem State.placeEcho_tileMap (e : Echo) : (s.placeEcho e).tileMap = s.tileMap := rfl
@[simp] theorem State.placeEcho_engine (e : Echo) : (s.placeEcho e).engine = s.engine := rfl
@[simp] theorem State.placeEcho_timers (e : Echo) : (s.placeEcho e).timers = s.timers := rfl
@[simp] theorem State.placeEcho_memory (e : Echo) : (s.placeEcho e).memory = s.memory := rfl
@[simp] theorem State.placeEcho_uplink (e : Echo) : (s.placeEcho e).uplink = s.uplink := rfl
@[simp] theorem State.placeEcho_handler (e : Echo) : (s.placeEcho e).handler = s.handler := rfl
@[simp] theorem State.placeEcho_rstnLow (e : Echo) : (s.placeEcho e).rstnLow = s.rstnLow := rfl
@[simp] theorem State.placeEcho_pending (e : Echo) : (s.placeEcho e).pending = s.pending := rfl
@[simp] theorem State.placeEcho_meanwhile (e : Echo) : (s.placeEcho e).meanwhile = s.meanwhile := rfl
@[simp] theorem State.placeEcho_tileWrites (e : Echo) : (s.placeEcho e).tileWrites = s.tileWrites := rfl
@[simp] theorem State.placeEcho_arm (e : Echo) (i : ArmId) : (s.placeEcho e).arm i = s.arm i := by cases i <;> rfl

@[simp] theorem State.withQuest_armA (q : Fin 16) (x : Quest) : (s.withQuest q x).armA = s.armA := rfl
@[simp] theorem State.withQuest_armB (q : Fin 16) (x : Quest) : (s.withQuest q x).armB = s.armB := rfl
@[simp] theorem State.withQuest_tileMap (q : Fin 16) (x : Quest) : (s.withQuest q x).tileMap = s.tileMap := rfl
@[simp] theorem State.withQuest_timers (q : Fin 16) (x : Quest) : (s.withQuest q x).timers = s.timers := rfl
@[simp] theorem State.withQuest_memory (q : Fin 16) (x : Quest) : (s.withQuest q x).memory = s.memory := rfl
@[simp] theorem State.withQuest_notices (q : Fin 16) (x : Quest) : (s.withQuest q x).notices = s.notices := rfl
@[simp] theorem State.withQuest_uplink (q : Fin 16) (x : Quest) : (s.withQuest q x).uplink = s.uplink := rfl
@[simp] theorem State.withQuest_handler (q : Fin 16) (x : Quest) : (s.withQuest q x).handler = s.handler := rfl
@[simp] theorem State.withQuest_rstnLow (q : Fin 16) (x : Quest) : (s.withQuest q x).rstnLow = s.rstnLow := rfl
@[simp] theorem State.withQuest_pending (q : Fin 16) (x : Quest) : (s.withQuest q x).pending = s.pending := rfl
@[simp] theorem State.withQuest_meanwhile (q : Fin 16) (x : Quest) : (s.withQuest q x).meanwhile = s.meanwhile := rfl
@[simp] theorem State.withQuest_tileWrites (q : Fin 16) (x : Quest) : (s.withQuest q x).tileWrites = s.tileWrites := rfl
@[simp] theorem State.withQuest_arm (q : Fin 16) (x : Quest) (i : ArmId) : (s.withQuest q x).arm i = s.arm i := by cases i <;> rfl

@[simp] theorem State.withTimer_armA (q : Fin 16) (t : Timer) : (s.withTimer q t).armA = s.armA := rfl
@[simp] theorem State.withTimer_armB (q : Fin 16) (t : Timer) : (s.withTimer q t).armB = s.armB := rfl
@[simp] theorem State.withTimer_tileMap (q : Fin 16) (t : Timer) : (s.withTimer q t).tileMap = s.tileMap := rfl
@[simp] theorem State.withTimer_engine (q : Fin 16) (t : Timer) : (s.withTimer q t).engine = s.engine := rfl
@[simp] theorem State.withTimer_memory (q : Fin 16) (t : Timer) : (s.withTimer q t).memory = s.memory := rfl
@[simp] theorem State.withTimer_notices (q : Fin 16) (t : Timer) : (s.withTimer q t).notices = s.notices := rfl
@[simp] theorem State.withTimer_uplink (q : Fin 16) (t : Timer) : (s.withTimer q t).uplink = s.uplink := rfl
@[simp] theorem State.withTimer_handler (q : Fin 16) (t : Timer) : (s.withTimer q t).handler = s.handler := rfl
@[simp] theorem State.withTimer_rstnLow (q : Fin 16) (t : Timer) : (s.withTimer q t).rstnLow = s.rstnLow := rfl
@[simp] theorem State.withTimer_pending (q : Fin 16) (t : Timer) : (s.withTimer q t).pending = s.pending := rfl
@[simp] theorem State.withTimer_meanwhile (q : Fin 16) (t : Timer) : (s.withTimer q t).meanwhile = s.meanwhile := rfl
@[simp] theorem State.withTimer_tileWrites (q : Fin 16) (t : Timer) : (s.withTimer q t).tileWrites = s.tileWrites := rfl
@[simp] theorem State.withTimer_arm (q : Fin 16) (t : Timer) (i : ArmId) : (s.withTimer q t).arm i = s.arm i := by cases i <;> rfl

@[simp] theorem State.withRule_armA (n : Fin 256) (r : RuleState) : (s.withRule n r).armA = s.armA := rfl
@[simp] theorem State.withRule_armB (n : Fin 256) (r : RuleState) : (s.withRule n r).armB = s.armB := rfl
@[simp] theorem State.withRule_tileMap (n : Fin 256) (r : RuleState) : (s.withRule n r).tileMap = s.tileMap := rfl
@[simp] theorem State.withRule_timers (n : Fin 256) (r : RuleState) : (s.withRule n r).timers = s.timers := rfl
@[simp] theorem State.withRule_memory (n : Fin 256) (r : RuleState) : (s.withRule n r).memory = s.memory := rfl
@[simp] theorem State.withRule_notices (n : Fin 256) (r : RuleState) : (s.withRule n r).notices = s.notices := rfl
@[simp] theorem State.withRule_uplink (n : Fin 256) (r : RuleState) : (s.withRule n r).uplink = s.uplink := rfl
@[simp] theorem State.withRule_handler (n : Fin 256) (r : RuleState) : (s.withRule n r).handler = s.handler := rfl
@[simp] theorem State.withRule_rstnLow (n : Fin 256) (r : RuleState) : (s.withRule n r).rstnLow = s.rstnLow := rfl
@[simp] theorem State.withRule_pending (n : Fin 256) (r : RuleState) : (s.withRule n r).pending = s.pending := rfl
@[simp] theorem State.withRule_meanwhile (n : Fin 256) (r : RuleState) : (s.withRule n r).meanwhile = s.meanwhile := rfl
@[simp] theorem State.withRule_tileWrites (n : Fin 256) (r : RuleState) : (s.withRule n r).tileWrites = s.tileWrites := rfl
@[simp] theorem State.withRule_arm (n : Fin 256) (r : RuleState) (i : ArmId) : (s.withRule n r).arm i = s.arm i := by cases i <;> rfl

@[simp] theorem State.dropExpiry_armA (q : Fin 16) : (s.dropExpiry q).armA = s.armA := rfl
@[simp] theorem State.dropExpiry_armB (q : Fin 16) : (s.dropExpiry q).armB = s.armB := rfl
@[simp] theorem State.dropExpiry_tileMap (q : Fin 16) : (s.dropExpiry q).tileMap = s.tileMap := rfl
@[simp] theorem State.dropExpiry_timers (q : Fin 16) : (s.dropExpiry q).timers = s.timers := rfl
@[simp] theorem State.dropExpiry_memory (q : Fin 16) : (s.dropExpiry q).memory = s.memory := rfl
@[simp] theorem State.dropExpiry_notices (q : Fin 16) : (s.dropExpiry q).notices = s.notices := rfl
@[simp] theorem State.dropExpiry_uplink (q : Fin 16) : (s.dropExpiry q).uplink = s.uplink := rfl
@[simp] theorem State.dropExpiry_handler (q : Fin 16) : (s.dropExpiry q).handler = s.handler := rfl
@[simp] theorem State.dropExpiry_rstnLow (q : Fin 16) : (s.dropExpiry q).rstnLow = s.rstnLow := rfl
@[simp] theorem State.dropExpiry_pending (q : Fin 16) : (s.dropExpiry q).pending = s.pending := rfl
@[simp] theorem State.dropExpiry_meanwhile (q : Fin 16) : (s.dropExpiry q).meanwhile = s.meanwhile := rfl
@[simp] theorem State.dropExpiry_tileWrites (q : Fin 16) : (s.dropExpiry q).tileWrites = s.tileWrites := rfl
@[simp] theorem State.dropExpiry_arm (q : Fin 16) (i : ArmId) : (s.dropExpiry q).arm i = s.arm i := by cases i <;> rfl

@[simp] theorem State.take_armA (w : WorkItem) : (s.take w).armA = s.armA := rfl
@[simp] theorem State.take_armB (w : WorkItem) : (s.take w).armB = s.armB := rfl
@[simp] theorem State.take_tileMap (w : WorkItem) : (s.take w).tileMap = s.tileMap := rfl
@[simp] theorem State.take_timers (w : WorkItem) : (s.take w).timers = s.timers := rfl
@[simp] theorem State.take_memory (w : WorkItem) : (s.take w).memory = s.memory := rfl
@[simp] theorem State.take_notices (w : WorkItem) : (s.take w).notices = s.notices := rfl
@[simp] theorem State.take_uplink (w : WorkItem) : (s.take w).uplink = s.uplink := rfl
@[simp] theorem State.take_handler (w : WorkItem) : (s.take w).handler = s.handler := rfl
@[simp] theorem State.take_rstnLow (w : WorkItem) : (s.take w).rstnLow = s.rstnLow := rfl
@[simp] theorem State.take_pending (w : WorkItem) : (s.take w).pending = s.pending := rfl
@[simp] theorem State.take_meanwhile (w : WorkItem) : (s.take w).meanwhile = s.meanwhile := rfl
@[simp] theorem State.take_tileWrites (w : WorkItem) : (s.take w).tileWrites = s.tileWrites := rfl
@[simp] theorem State.take_arm (w : WorkItem) (i : ArmId) : (s.take w).arm i = s.arm i := by cases i <;> rfl

@[simp] theorem State.spendAsides_armA : s.spendAsides.armA = s.armA := rfl
@[simp] theorem State.spendAsides_armB : s.spendAsides.armB = s.armB := rfl
@[simp] theorem State.spendAsides_tileMap : s.spendAsides.tileMap = s.tileMap := rfl
@[simp] theorem State.spendAsides_engine : s.spendAsides.engine = s.engine := rfl
@[simp] theorem State.spendAsides_timers : s.spendAsides.timers = s.timers := rfl
@[simp] theorem State.spendAsides_memory : s.spendAsides.memory = s.memory := rfl
@[simp] theorem State.spendAsides_notices : s.spendAsides.notices = s.notices := rfl
@[simp] theorem State.spendAsides_uplink : s.spendAsides.uplink = s.uplink := rfl
@[simp] theorem State.spendAsides_handler : s.spendAsides.handler = s.handler := rfl
@[simp] theorem State.spendAsides_rstnLow : s.spendAsides.rstnLow = s.rstnLow := rfl
@[simp] theorem State.spendAsides_pending : s.spendAsides.pending = s.pending := rfl
@[simp] theorem State.spendAsides_arm (i : ArmId) : s.spendAsides.arm i = s.arm i := by cases i <;> rfl

@[simp] theorem State.endItem_armA : s.endItem.armA = s.armA := rfl
@[simp] theorem State.endItem_armB : s.endItem.armB = s.armB := rfl
@[simp] theorem State.endItem_tileMap : s.endItem.tileMap = s.tileMap := rfl
@[simp] theorem State.endItem_timers : s.endItem.timers = s.timers := rfl
@[simp] theorem State.endItem_memory : s.endItem.memory = s.memory := rfl
@[simp] theorem State.endItem_notices : s.endItem.notices = s.notices := rfl
@[simp] theorem State.endItem_uplink : s.endItem.uplink = s.uplink := rfl
@[simp] theorem State.endItem_handler : s.endItem.handler = s.handler := rfl
@[simp] theorem State.endItem_rstnLow : s.endItem.rstnLow = s.rstnLow := rfl
@[simp] theorem State.endItem_pending : s.endItem.pending = s.pending := rfl
@[simp] theorem State.endItem_meanwhile : s.endItem.meanwhile = s.meanwhile := rfl
@[simp] theorem State.endItem_tileWrites : s.endItem.tileWrites = s.tileWrites := rfl

@[simp] theorem State.raise_alerts (al : Alert) : (s.raise al).notices.alerts = raiseAlert s.notices.alerts al := rfl
@[simp] theorem State.raise_quests (al : Alert) : (s.raise al).notices.quests = s.notices.quests := rfl
@[simp] theorem State.raise_events (al : Alert) : (s.raise al).notices.events = s.notices.events := rfl
@[simp] theorem State.notify_alerts (n : QuestNotice) : (s.notify n).notices.alerts = s.notices.alerts := rfl
@[simp] theorem State.notify_quests (n : QuestNotice) : (s.notify n).notices.quests = s.notices.quests ++ [n] := rfl
@[simp] theorem State.notify_events (n : QuestNotice) : (s.notify n).notices.events = s.notices.events := rfl
@[simp] theorem State.placeEcho_alerts (e : Echo) : (s.placeEcho e).notices.alerts = s.notices.alerts := rfl
@[simp] theorem State.placeEcho_quests (e : Echo) : (s.placeEcho e).notices.quests = s.notices.quests := rfl
@[simp] theorem State.placeEcho_events (e : Echo) : (s.placeEcho e).notices.events = s.notices.events ++ [e] := rfl
@[simp] theorem State.spendAsides_tileWrites : s.spendAsides.tileWrites = s.tileWrites := rfl
@[simp] theorem State.spendAsides_meanwhile : s.spendAsides.meanwhile = s.meanwhile.tail := rfl
@[simp] theorem State.endItem_inFlight : s.endItem.engine.inFlight = none := rfl
@[simp] theorem State.take_inFlight (w : WorkItem) : (s.take w).engine.inFlight = some w := rfl
@[simp] theorem State.withQuest_quest_self (q : Fin 16) (x : Quest) : (s.withQuest q x).quest q = x := by
  simp [State.quest, State.withQuest]
theorem State.withQuest_quest_ne (q k : Fin 16) (x : Quest) (h : k ≠ q) : (s.withQuest q x).quest k = s.quest k := by
  simp [State.quest, State.withQuest, Fin.val_ne_of_ne h.symm]
@[simp] theorem State.withQuest_expiry (q : Fin 16) (x : Quest) : (s.withQuest q x).engine.expiry = s.engine.expiry := rfl
@[simp] theorem State.withTimer_quest (q k : Fin 16) (t : Timer) : (s.withTimer q t).quest k = s.quest k := rfl
@[simp] theorem State.dropExpiry_quest (q k : Fin 16) : (s.dropExpiry q).quest k = s.quest k := rfl
@[simp] theorem State.withRule_rule_self (n : Fin 256) (r : RuleState) : (s.withRule n r).rule n = r := by
  simp [State.rule, State.withRule, Engine.withRule]
theorem State.withRule_rule_ne (n m : Fin 256) (r : RuleState) (h : m ≠ n) : (s.withRule n r).rule m = s.rule m := by
  simp [State.rule, State.withRule, Engine.withRule, Fin.val_ne_of_ne h.symm]

end Sys2Proof.Machine
end

