-- ==== Sys2Proof/Laws/Arms.lean ====
section
/-! SUPPORT. What one move of the rotation can do, and where the rotation stands still (R27, R28, R34). -/

namespace Sys2Proof.Machine

open Sys2Proof

/-- Everything one move of the pass can do (R27, R28, R34, R38, R39). -/
theorem State.movePass_cases (s : State) (i : ArmId) :
    (s.movePass i = s) ∨
    ((s.arm i).pass = .reaching ∧ s.movePass i = s.withArm i (s.arm i).reach) ∨
    ((s.arm i).pass = .between ∧ (s.arm i).mayStart = true ∧ s.movePass i = s.withArm i (s.arm i).startRotation) ∨
    ((s.arm i).pass = .ended ∧ (s.arm i).phase = .enumerating ∧
      s.movePass i = s.withArm i ({ s.arm i with phase := .running, counter := 1 } : Arm).startRotation) ∨
    ((s.arm i).pass = .ended ∧ (s.arm i).phase = .running ∧ (s.arm i).faultTest = true ∧ s.movePass i = s.faultArm i) ∨
    ((s.arm i).pass = .ended ∧ (s.arm i).phase = .running ∧ (s.arm i).faultTest = false ∧
      s.movePass i = s.withArm i { s.arm i with counter := (s.arm i).counter + 1, pass := .between }) := by
  unfold State.movePass
  cases hp : (s.arm i).pass with
  | visiting b => left; simp [hp]
  | reaching => right; left; simp [hp]
  | between =>
    cases hm : (s.arm i).mayStart with
    | true => right; right; left; simp [hp, hm]
    | false => left; simp [hp, hm]
  | ended =>
    cases hf : (s.arm i).phase with
    | off => left; simp [hp, hf]
    | faulted => left; simp [hp, hf]
    | enumerating => right; right; right; left; simp [hp, hf]
    | running =>
      cases ht : (s.arm i).faultTest with
      | true => right; right; right; right; left; simp [hp, hf, ht]
      | false => right; right; right; right; right; simp [hp, hf, ht]

/-- A property that every move of the pass keeps is kept by bringing the rotation to where it stands. -/
theorem State.movePasses_induct (P : State → Prop) (i : ArmId)
    (hmove : ∀ s, P s → (s.arm i).active = true → (s.arm i).line.idle = true → P (s.movePass i)) (hold : Bool) (n : Nat)
    (s : State) (h : P s) : P (s.movePasses i hold n) := by
  induction n generalizing s with
  | zero => exact h
  | succ n ih =>
    unfold State.movePasses
    split
    · rename_i hc
      simp only [Bool.and_eq_true] at hc
      exact ih _ (hmove s h hc.1.1 hc.1.2)
    · exact h

/-- While a frame is on the pair, or the arm drives nothing, the rotation stands (R27). -/
theorem State.movePasses_busy (s : State) (i : ArmId) (hold : Bool) (n : Nat)
    (h : ((s.arm i).active && (s.arm i).line.idle) = false) : s.movePasses i hold n = s := by
  cases n with
  | zero => rfl
  | succ n => simp [State.movePasses, h]

/-- A visit under way stands until it ends (R28). -/
theorem State.movePasses_visiting (s : State) (i : ArmId) (hold b : Bool) (h : (s.arm i).pass = .visiting b) (n : Nat) :
    s.movePasses i hold n = s := by
  have hm : s.movePass i = s := by simp [State.movePass, h]
  induction n with
  | zero => rfl
  | succ n ih => unfold State.movePasses; rw [hm, ih]; simp

/-- A pass that stands at a position it visits stops there (R27). -/
theorem Arm.nextStop_self (x : Arm) (h : x.visits (x.presence[x.position]).state = true) :
    x.nextStop = some x.position := by
  unfold Arm.nextStop
  rw [List.find?_eq_some_iff_getElem]
  refine ⟨by simpa using h, x.position.val, by simp, by simp, ?_⟩
  intro j hj
  have : ¬ x.position.val ≤ j := by omega
  simp [this]

/-- A rotation whose next positions are passed over waits behind the ASSIGN or effect frame that goes first (R27). -/
theorem State.bring_waits (s : State) (i : ArmId) (hf : (s.arm i).frameBeforePoll = true)
    (hp : (s.arm i).passesOver = true) : s.bring i = s := by
  simp [State.bring, State.movePasses, hf, hp]

/-- An arm that is not active, or whose pair is not idle, keeps its rotation where it stands (R27, R36). -/
theorem State.bring_stays (s : State) (i : ArmId) (h : (s.arm i).active = false ∨ ¬ s.pairFree i) : s.bring i = s := by
  have : ((s.arm i).active && (s.arm i).line.idle) = false := by
    rcases h with h | h
    · simp [h]
    · cases hl : (s.arm i).line <;> simp_all [State.pairFree, Line.idle]
  simp [State.bring, State.movePasses, this]

/-- The next rotation may start exactly when its wait is over (R27, R42). -/
theorem State.waitsToStart_iff (s : State) (i : ArmId) : s.waitsToStart i ↔ (s.arm i).mayStart = false := by
  unfold State.waitsToStart Arm.mayStart
  cases (s.arm i).startMark with
  | none => simp
  | some m => cases (s.arm i).doze <;> simp

/-- A visit that ends on a free pair leaves the arm at the next position, or with its pass ended (R28). -/
theorem State.withArm_leave (s : State) (i : ArmId) (x : Arm) (h : x.line = .free) :
    s.withArm i x.leave = s.leftBehind i x.position x := by
  unfold State.leftBehind Arm.leave
  have := x.position.isLt
  by_cases hp : x.position.val + 1 < 32
  · simp [hp, ← h, show x.position.val < 31 by omega]
  · simp [hp, ← h, show ¬ x.position.val < 31 by omega]

/-- The arm becomes FAULTED: its own controller and the ALERT queue change, nothing else (R39). -/
theorem State.faultArm_eq (s : State) (i : ArmId) :
    s.faultArm i = (s.withArm i ((s.arm i).halted .faulted (s.resetPresence i))).withNotices
      { s.notices with alerts := raiseAlert s.notices.alerts (.armFault i) } := by
  cases i <;> rfl

/-- The arm that the fault leaves is `State.faultedArm` of the arm before it (R9, R39). -/
theorem State.faultArm_arm (s : State) (i : ArmId) : (s.faultArm i).arm i = s.faultedArm i (s.arm i) := by
  cases i <;> rfl

/-- An effect entry is appended at an arm that drives its pair and dropped at one that does not (R51). -/
theorem State.enqueue_cases (s : State) (i : ArmId) (e : EffectEntry) :
    ((s.arm i).active = true ∧ s.enqueue i e = s.withArm i { s.arm i with effects := (s.arm i).effects ++ [e] }) ∨
    ((s.arm i).active = false ∧ s.enqueue i e = s) := by
  unfold State.enqueue
  cases h : (s.arm i).active with
  | true => exact .inl ⟨rfl, rfl⟩
  | false => exact .inr ⟨rfl, rfl⟩

end Sys2Proof.Machine
end

