-- ==== Sys2Proof/Laws/Notices.lean ====
section
/-! SUPPORT. What raising an alert and starting a frame can do (R156, R157, R161, R162). -/

namespace Sys2Proof.Machine

open Sys2Proof

/-- Coalescing replaces the first equal entry by itself with one more occurrence and moves nothing (R156). -/
theorem coalesce_split (q : List AlertEntry) (al : Alert) (h : q.any (fun e => e.alert.sameSubject al) = true) :
    ∃ pre e post, q = pre ++ e :: post ∧ e.alert.sameSubject al = true ∧
      (∀ x ∈ pre, x.alert.sameSubject al = false) ∧
      coalesce q al = pre ++ { e with count := saturate 255 e.count } :: post := by
  induction q with
  | nil => cases h
  | cons e rest ih =>
    by_cases he : e.alert.sameSubject al = true
    · exact ⟨[], e, rest, rfl, he, by simp, by simp [coalesce, he]⟩
    · have hr : rest.any (fun e => e.alert.sameSubject al) = true := by simpa [he] using h
      obtain ⟨pre, x, post, h1, h2, h3, h4⟩ := ih hr
      refine ⟨e :: pre, x, post, by rw [h1]; rfl, h2, ?_, by simp [coalesce, he, h4]⟩
      intro y hy
      rcases List.mem_cons.mp hy with rfl | hy
      · simpa using he
      · exact h3 y hy

/-- Everything raising an alert can do to the ALERT queue (R156, R157). -/
theorem raiseAlert_cases (q : List AlertEntry) (al : Alert) :
    (∃ pre e post, q = pre ++ e :: post ∧ e.alert.sameSubject al = true ∧
      (∀ x ∈ pre, x.alert.sameSubject al = false) ∧
      raiseAlert q al = pre ++ { e with count := saturate 255 e.count } :: post) ∨
    ((∀ x ∈ q, x.alert.sameSubject al = false) ∧ q.length < 8 ∧ raiseAlert q al = q ++ [⟨al, 1⟩]) ∨
    ((∀ x ∈ q, x.alert.sameSubject al = false) ∧ 8 ≤ q.length ∧ raiseAlert q al = q) := by
  by_cases h : q.any (fun e => e.alert.sameSubject al) = true
  · left
    obtain ⟨pre, e, post, h1, h2, h3, h4⟩ := coalesce_split q al h
    exact ⟨pre, e, post, h1, h2, h3, by simp [raiseAlert, h, h4]⟩
  · have hn : ∀ x ∈ q, x.alert.sameSubject al = false := by simpa using h
    right
    by_cases hl : q.length < 8
    · exact .inl ⟨hn, hl, by simp [raiseAlert, h, Config.alertCapacity, hl]⟩
    · exact .inr ⟨hn, by omega, by simp [raiseAlert, h, Config.alertCapacity, hl]⟩

/-- Saturating counts never pass their limit. -/
theorem saturate_le (limit n : Nat) (h : n ≤ limit) : saturate limit n ≤ limit := by
  unfold saturate; split <;> omega

/-- A saturating count that is below its limit counts on. -/
theorem saturate_lt (limit n : Nat) (h : n < limit) : saturate limit n = n + 1 := by simp [saturate, h]

/-- Beginning a frame touches the uplink port only (R172). -/
theorem State.begin_eq (s : State) (source : TxSource) (line : List Byte) :
    s.begin source line = s.withUplink { s.uplink.flushFlow with tx := some ⟨source, line⟩ } := rfl

/-- Everything the choice of R162 can do, by the ranking of reply, ALERT, QUEST and EVENT. -/
theorem State.startFrame_cases (s : State) :
    (∃ r, s.handler = .reply r ∧ s.startFrame = (s.withHandler (.sending r)).begin .reply (replyLine r)) ∨
    ((∀ r, s.handler ≠ .reply r) ∧
      ((∃ e rest, s.notices.alerts = e :: rest ∧
          s.startFrame = (s.withNotices { s.notices with alerts := rest }).begin .alert (alertLine e)) ∨
       (s.notices.alerts = [] ∧ ∃ n rest, s.notices.quests = n :: rest ∧ s.startFrame = s.begin (.quest true) (questLine n)) ∨
       (s.notices.alerts = [] ∧ s.notices.quests = [] ∧ ∃ e rest, s.notices.events = e :: rest ∧
          s.startFrame = s.begin (.event true) (eventLine e)) ∨
       (s.notices.alerts = [] ∧ s.notices.quests = [] ∧ s.notices.events = [] ∧ s.startFrame = s))) := by
  unfold State.startFrame
  cases hh : s.handler with
  | reply r => exact .inl ⟨r, rfl, rfl⟩
  | idle | pending _ _ | sending _ =>
    refine .inr ⟨by simp, ?_⟩
    cases ha : s.notices.alerts with
    | cons e rest => exact .inl ⟨e, rest, rfl, rfl⟩
    | nil =>
      cases hq : s.notices.quests with
      | cons n rest => exact .inr (.inl ⟨rfl, n, rest, rfl, rfl⟩)
      | nil =>
        cases he : s.notices.events with
        | cons e rest => exact .inr (.inr (.inl ⟨rfl, rfl, e, rest, rfl, rfl⟩))
        | nil => exact .inr (.inr (.inr ⟨rfl, rfl, rfl, rfl⟩))

end Sys2Proof.Machine
end

