-- ==== Sys2Proof/Laws/Numbers.lean ====
section
/-! SUPPORT. The numbers behind digits, clamps and 16-bit patterns (R83, R90). -/

namespace Sys2Proof.Machine

open Sys2Proof

/-- A score lies within 0 to 9999 (R90). -/
theorem Score.value_le (x : Score) : x.value ≤ 9999 := by
  have := x.thousands.isLt; have := x.hundreds.isLt; have := x.tens.isLt; have := x.units.isLt
  unfold Score.value; omega

/-- The score written from a number 0 to 9999 reads as that number (R90). -/
theorem Score.ofNat_value (n : Nat) (m : Bool) (h : n ≤ 9999) : (Score.ofNat n m).value = n := by
  simp only [Score.ofNat, Score.value]; omega

@[simp] theorem Score.ofNat_saturated (n : Nat) (m : Bool) : (Score.ofNat n m).saturated = m := rfl

/-- One digit of an addition (R92). -/
theorem addDigit_spec (x y : Fin 10) (c : Bool) :
    x.val + y.val + c.toNat = (addDigit x y c).1.val + 10 * (addDigit x y c).2.toNat := by
  unfold addDigit
  simp only
  split
  · simp
  · simp only [Bool.toNat_true]; omega

/-- One digit of a subtraction (R93). -/
theorem subDigit_spec (x y : Fin 10) (b : Bool) :
    x.val + 10 * (subDigit x y b).2.toNat = (subDigit x y b).1.val + y.val + b.toNat := by
  unfold subDigit
  split
  · simp only [Bool.toNat_false]; omega
  · rename_i h
    have := y.isLt; have := b.toNat_le
    simp only [Bool.toNat_true]; omega

/-- A wrapped result differs from the exact one by a multiple of 65536 (R82). -/
theorem wrapped_toInt (e : Int) : (wrapped e).toInt = e.bmod 65536 := by simp [wrapped, BitVec.toInt_ofInt]

/-- A result within the 16-bit range is stored as it is (R82). -/
theorem wrapped_of_range (e : Int) (h1 : -32768 ≤ e) (h2 : e ≤ 32767) : (wrapped e).toInt = e := by
  rw [wrapped_toInt]
  exact Int.bmod_eq_of_le (by omega) (by omega)

/-- Raising to lo and lowering to hi gives a value within the limits (R83). -/
theorem clampTo_within (k : Clamp) (e : Int) (h : k.lo.toInt ≤ k.hi.toInt) :
    k.lo.toInt ≤ clampTo k e ∧ clampTo k e ≤ k.hi.toInt := by
  unfold clampTo; split
  · omega
  · split <;> omega

/-- The two bytes of a 16-bit field give it back (R183). -/
theorem bigEndian_hiByte_loByte (w : Half) : bigEndian (hiByte w) (loByte w) = w := by
  apply BitVec.eq_of_getLsbD_eq
  intro i hi
  simp only [bigEndian, hiByte, loByte, BitVec.getLsbD_append, BitVec.getLsbD_extractLsb']
  by_cases h : i < 8
  · simp [h]
  · have h1 : i - 8 < 8 := by omega
    have h2 : 8 + (i - 8) = i := by omega
    simp [h, h1, h2]

end Sys2Proof.Machine
end

