-- ==== Sys2Proof/Laws/Operands.lean ====
section
/-! SUPPORT. What the field readers give (R104, R183): each says the number that its bytes hold. -/

namespace Sys2Proof.Machine

open Sys2Proof

/-- A number field that is in range is the byte's number (R183). -/
theorem numberField_val {n : Nat} {b : Byte} {x : Fin n} (h : numberField n b = some x) : x.val = b.toNat := by
  unfold numberField at h
  split at h
  · exact (congrArg Fin.val (Option.some.inj h)).symm
  · cases h

/-- A 16-bit number field that is in range is the field's number (R104). -/
theorem valueField_val {n : Nat} {w : Half} {x : Fin n} (h : valueField n w = some x) : x.val = w.toNat := by
  unfold valueField at h
  split at h
  · exact (congrArg Fin.val (Option.some.inj h)).symm
  · cases h

/-- A field with a marker 255: none at the marker, else the byte's number (R183). -/
theorem optionalField_val {n : Nat} {b : Byte} {x : Option (Fin n)} (h : optionalField n b = some x) :
    x.map Fin.val = if b = 255 then none else some b.toNat := by
  unfold optionalField at h
  split at h
  · cases h; simp_all
  · obtain ⟨y, hy, rfl⟩ := Option.map_eq_some_iff.mp h
    simp_all [numberField_val hy]

theorem hiNibble_eq (b : Byte) : hiNibble b = b.toNat / 16 := by revert b; decide
theorem loNibble_eq (b : Byte) : loNibble b = b.toNat % 16 := by revert b; decide

/-- A two-byte field read unsigned (R183). -/
theorem bigEndian_toNat (hi lo : Byte) : (bigEndian hi lo).toNat = 256 * hi.toNat + lo.toNat := by
  unfold bigEndian
  rw [BitVec.toNat_append, ← Nat.shiftLeft_add_eq_or_of_lt lo.isLt, Nat.shiftLeft_eq]
  omega

@[simp] theorem hiByte_bigEndian (hi lo : Byte) : hiByte (bigEndian hi lo) = hi := by
  apply BitVec.eq_of_getLsbD_eq
  intro i h
  unfold hiByte bigEndian
  rw [BitVec.getLsbD_extractLsb', BitVec.getLsbD_append]
  simp [h]

@[simp] theorem loByte_bigEndian (hi lo : Byte) : loByte (bigEndian hi lo) = lo := by
  apply BitVec.eq_of_getLsbD_eq
  intro i h
  unfold loByte bigEndian
  rw [BitVec.getLsbD_extractLsb', BitVec.getLsbD_append]
  simp [h]

end Sys2Proof.Machine
end

