-- ==== Sys2Proof/Laws/Requests.lean ====
section
/-! SUPPORT. What serving a request can do (R135, R174). -/

namespace Sys2Proof.Machine

open Sys2Proof

/-- A direct request is served with its reply made, or the state stands (R174, R175). -/
theorem serveDirect_cases (item : List Byte → State → State × Reply) (body : List Byte) (s : State) :
    (s.handlerFree = true ∧ serveDirect item body s = (item body s).1.withHandler (.reply (item body s).2)) ∨
    (s.handlerFree = false ∧ serveDirect item body s = s) := by
  unfold serveDirect
  cases h : s.handlerFree with
  | true => exact .inl ⟨rfl, rfl⟩
  | false => exact .inr ⟨rfl, rfl⟩

/-- A management item runs from its take to its end with its reply made, or the state stands (R135, R174). -/
theorem serveItem_cases (kind : Byte) (item : List Byte → State → State × Reply) (body : List Byte) (s : State) :
    (s.mayServe kind body = true ∧
      serveItem kind item body s =
        (item body (s.take (.management kind body))).1.endItem.withHandler
          (.reply (item body (s.take (.management kind body))).2)) ∨
    (s.mayServe kind body = false ∧ serveItem kind item body s = s) := by
  unfold serveItem
  cases h : s.mayServe kind body with
  | true => exact .inl ⟨rfl, rfl⟩
  | false => exact .inr ⟨rfl, rfl⟩

/-- The pending request is served when the part works and the engine is idle (R122, R123). -/
theorem State.mayServe_pending (s : State) (kind : Byte) (body : List Byte) (hr : s.rstnLow = false)
    (he : s.engine.inFlight = none) (hh : s.handler = .pending kind body) : s.mayServe kind body = true := by
  simp [State.mayServe, State.alive, hr, he, hh]

/-- A request that has just been taken by the free handler is served when the engine is idle (R174; log 3). -/
theorem State.mayServe_free (s : State) (kind : Byte) (body : List Byte) (hr : s.rstnLow = false)
    (he : s.engine.inFlight = none) (hh : s.handler = .idle) (hf : s.uplink.frames = []) :
    s.mayServe kind body = true := by
  simp [State.mayServe, State.handlerFree, State.alive, hr, he, hh, hf]

/-- A request is not served while another one occupies the handler (R174). -/
theorem State.mayServe_other (s : State) (kind : Byte) (body : List Byte) (hh : s.handler ≠ .idle)
    (hp : s.handler ≠ .pending kind body) : s.mayServe kind body = false := by
  simp [State.mayServe, State.handlerFree, hh, hp]

/-- The item in flight does not outlive an item: taking one and ending it leaves the engine idle as it was. -/
theorem State.take_endItem (s : State) (w : WorkItem) (h : s.engine.inFlight = none) : (s.take w).endItem = s := by
  cases s with
  | mk a b m e t mm n u hd r p w =>
    cases e
    simp only at h
    subst h
    rfl

end Sys2Proof.Machine
end

