-- ==== Sys2Proof/Laws/RuleMemory.lean ====
section
/-! SUPPORT. Rule memory: read after write, the frame of a write, and what a checked read can do. -/

namespace Sys2Proof.Machine

open Sys2Proof

/-- An entry reads as it was written (R141). -/
@[simp] theorem RuleMemory.write_entry_self (m : RuleMemory) (i : Fin 256) (e : BitVec 233) :
    (m.write i e).entries[i] = e := by simp [RuleMemory.write]

/-- A write leaves every other entry as it stood (R141). -/
theorem RuleMemory.write_entry_ne (m : RuleMemory) (i j : Fin 256) (e : BitVec 233) (h : j ≠ i) :
    (m.write i e).entries[j] = m.entries[j] := by
  simp [RuleMemory.write, Fin.val_ne_of_ne h.symm]

@[simp] theorem RuleMemory.write_capture (m : RuleMemory) (i : Fin 256) (e : BitVec 233) :
    (m.write i e).capture = m.capture := rfl
@[simp] theorem RuleMemory.write_corrected (m : RuleMemory) (i : Fin 256) (e : BitVec 233) :
    (m.write i e).corrected = m.corrected := rfl
@[simp] theorem RuleMemory.write_uncorrectable (m : RuleMemory) (i : Fin 256) (e : BitVec 233) :
    (m.write i e).uncorrectable = m.uncorrectable := rfl
@[simp] theorem RuleMemory.write_scrubIndex (m : RuleMemory) (i : Fin 256) (e : BitVec 233) :
    (m.write i e).scrubIndex = m.scrubIndex := rfl

/-- After a write of an entry no write-back is pending for it, and a pending one for another entry stands (R149). -/
theorem RuleMemory.write_writeBack (m : RuleMemory) (i : Fin 256) (e : BitVec 233) (w : WriteBack) :
    (m.write i e).writeBack = some w ↔ m.writeBack = some w ∧ w.rule ≠ i := by
  unfold RuleMemory.write
  cases h : m.writeBack with
  | none => simp
  | some v =>
    by_cases hv : v.rule = i
    · simp only [hv, if_true]
      constructor
      · intro h1; cases h1
      · rintro ⟨h1, h2⟩; cases h1; exact absurd hv h2
    · simp only [hv, if_false, Option.some.injEq]
      constructor
      · rintro rfl; exact ⟨rfl, hv⟩
      · exact fun h1 => h1.1

/-- Filling an empty capture record changes nothing but the capture record (R144, R146). -/
theorem RuleMemory.captured_cases (m : RuleMemory) (c : Capture) :
    (m.capture = none ∧ m.captured c = { m with capture := some c }) ∨
    ((∃ d, m.capture = some d) ∧ m.captured c = m) := by
  unfold RuleMemory.captured
  cases h : m.capture with
  | none => exact .inl ⟨rfl, rfl⟩
  | some d => exact .inr ⟨⟨d, rfl⟩, rfl⟩

/-- Everything a checked read can do (R143 to R145). -/
theorem checkedRead_cases (found : FoundBy) (i : Fin 256) (s : State) :
    (readOutcome s.memory.entries[i] = .clean ∧ checkedRead found i s = (s, some (entryData s.memory.entries[i]))) ∨
    (∃ p, readOutcome s.memory.entries[i] = .oneChanged p ∧
      checkedRead found i s =
        (s.noteCorrected found i p (encodeEntry (entryData (flipBit s.memory.entries[i] p))),
         some (entryData (flipBit s.memory.entries[i] p)))) ∨
    (readOutcome s.memory.entries[i] = .twoChanged ∧ checkedRead found i s = (s.noteLost found i, none)) := by
  unfold checkedRead
  cases h : readOutcome s.memory.entries[i] with
  | clean => simp only [h]; exact .inl ⟨trivial, trivial⟩
  | oneChanged p => simp only [h]; exact .inr (.inl ⟨p, rfl, rfl⟩)
  | twoChanged => simp only [h]; exact .inr (.inr ⟨trivial, trivial⟩)

/-- A correction touches rule memory only (R144). -/
theorem State.noteCorrected_eq (s : State) (found : FoundBy) (i : Fin 256) (p : Fin 233) (fixed : BitVec 233) :
    s.noteCorrected found i p fixed = s.withMemory (s.noteCorrected found i p fixed).memory := rfl

/-- A quarantine touches rule memory, one rule state and the ALERT queue only (R145). -/
theorem State.noteLost_frame (s : State) (found : FoundBy) (i : Fin 256) :
    (s.noteLost found i).armA = s.armA ∧ (s.noteLost found i).armB = s.armB ∧
    (s.noteLost found i).tileMap = s.tileMap ∧ (s.noteLost found i).timers = s.timers ∧
    (s.noteLost found i).uplink = s.uplink ∧ (s.noteLost found i).handler = s.handler ∧
    (s.noteLost found i).rstnLow = s.rstnLow ∧ (s.noteLost found i).pending = s.pending ∧
    (s.noteLost found i).meanwhile = s.meanwhile ∧ (s.noteLost found i).tileWrites = s.tileWrites ∧
    (s.noteLost found i).memory.entries = s.memory.entries ∧
    (s.noteLost found i).engine = s.engine.withRule i (quarantined s.engine.rules[i]) ∧
    (s.noteLost found i).notices.quests = s.notices.quests ∧
    (s.noteLost found i).notices.events = s.notices.events ∧
    (s.noteLost found i).notices.alerts = raiseAlert s.notices.alerts (.ruleLost i) := by
  refine ⟨rfl, rfl, rfl, rfl, rfl, rfl, rfl, rfl, rfl, rfl, ?_, rfl, rfl, rfl, rfl⟩
  obtain ⟨-, h⟩ | ⟨-, h⟩ := RuleMemory.captured_cases
    { s.memory with uncorrectable := saturate 255 s.memory.uncorrectable } ⟨.uncorrectable, i, found⟩
  all_goals simp [State.noteLost, h]

end Sys2Proof.Machine
end

