-- ==== Sys2Proof/Laws/Scan.lean ====
section
/-! SUPPORT. The scan of the rule table, index by index, and the decisions at an action (R110, R114 to R116, R131). -/

namespace Sys2Proof.Machine

open Sys2Proof

variable (asides : List Aside)

/-! ### What the other blocks do meanwhile (R130) -/

/-- Nothing happens at a moment to which no step belongs. -/
theorem during_none (m : Moment) (s : State) (h : ∀ x ∈ asides, x.moment ≠ m) : during asides m s = s := by
  have : (asides.filter fun x => x.moment == m) = [] := by simpa [List.filter_eq_nil_iff] using h
  simp [during, this]

@[simp] theorem during_nil (m : Moment) (s : State) : during [] m s = s := rfl

/-- A property that every step of another block keeps is kept by what happens at a moment. -/
theorem during_induct (P : State → Prop) (hbesides : ∀ c s, P s → P (besides c s)) (m : Moment) (s : State) (h : P s) :
    P (during asides m s) := by
  unfold during
  generalize asides.filter (fun x => x.moment == m) = l
  induction l generalizing s with
  | nil => exact h
  | cons x rest ih => exact ih (besides x.command s) (hbesides x.command s h)

/-! ### One index of the scan -/

/-- A fetch whose record is not usable or does not match leaves the fetch's effects only (R110, R111). -/
theorem scanRule_skip (ev : Event) (s : State) (i : Fin 256)
    (hm : ∀ r, (checkedRead .scan i s).2.bind decodeRule = some r → ruleMatches r ev (checkedRead .scan i s).1 = false) :
    scanRule asides ev i s = ((checkedRead .scan i s).1, none) := by
  unfold scanRule
  cases hd : (checkedRead .scan i s).2.bind decodeRule with
  | none => simp only [hd]
  | some r => simp only [hd, hm r hd]; rfl

/-- A fetched record that matches fires (R114). -/
theorem scanRule_fire (ev : Event) (s : State) (i : Fin 256) (r : RuleRecord)
    (hd : (checkedRead .scan i s).2.bind decodeRule = some r)
    (hm : ruleMatches r ev (checkedRead .scan i s).1 = true) :
    scanRule asides ev i s = (fireRule asides ev i r (checkedRead .scan i s).1, some r) := by
  unfold scanRule
  simp only [hd, hm]
  rfl

/-- Everything the scan can do at an ENABLED rule (R110, R111, R114). -/
theorem scanRule_cases (ev : Event) (s : State) (i : Fin 256) :
    scanRule asides ev i s = ((checkedRead .scan i s).1, none) ∨
    ∃ r, (checkedRead .scan i s).2.bind decodeRule = some r ∧ ruleMatches r ev (checkedRead .scan i s).1 = true ∧
      scanRule asides ev i s = (fireRule asides ev i r (checkedRead .scan i s).1, some r) := by
  cases hd : (checkedRead .scan i s).2.bind decodeRule with
  | none => exact .inl (scanRule_skip asides ev s i (by simp [hd]))
  | some r =>
    cases hm : ruleMatches r ev (checkedRead .scan i s).1 with
    | false => exact .inl (scanRule_skip asides ev s i (by intro r' hr; rw [hd] at hr; cases hr; exact hm))
    | true => exact .inr ⟨r, rfl, hm, scanRule_fire asides ev s i r hd hm⟩

/-! ### The scan from one index on -/

/-- A rule that is not ENABLED when the scan comes to it is passed over without a fetch (R110). -/
theorem scanRules_pass (ev : Event) (n : Nat) (s now : State) (i : Fin 256) (rest : List (Fin 256))
    (hn : now = during asides (.fetch i) s) (h : now.rule i ≠ .enabled) :
    scanRules asides ev n s (i :: rest) = scanRules asides ev n now rest := by
  subst hn; rw [scanRules, if_neg h]

/-- An ENABLED rule that does not fire is passed over with the fetch's effects (R110). -/
theorem scanRules_skip (ev : Event) (n : Nat) (s now : State) (i : Fin 256) (rest : List (Fin 256))
    (hn : now = during asides (.fetch i) s) (h : now.rule i = .enabled)
    (hf : (scanRule asides ev i now).2.isSome = false) :
    scanRules asides ev n s (i :: rest) = scanRules asides ev n (scanRule asides ev i now).1 rest := by
  subst hn; rw [scanRules, if_pos h]; simp only [hf]; rfl

/-- Past a fired rule the scan goes on only when it chains and fewer than four have fired (R116). -/
theorem scanRules_fire (ev : Event) (n : Nat) (s now : State) (i : Fin 256) (rest : List (Fin 256))
    (hn : now = during asides (.fetch i) s) (h : now.rule i = .enabled)
    (hf : (scanRule asides ev i now).2.isSome = true) :
    scanRules asides ev n s (i :: rest) =
      if (scanRule asides ev i now).2.any RuleRecord.chain && n + 1 < 4 then
        scanRules asides ev (n + 1) (scanRule asides ev i now).1 rest
      else ((scanRule asides ev i now).1, n + 1) := by
  subst hn; rw [scanRules, if_pos h]; simp only [hf]; rfl

/-- A property that fetches, firings and the steps of other blocks keep is kept by the scan. -/
theorem scanRules_induct (P : State → Prop) (ev : Event) (hbesides : ∀ c s, P s → P (besides c s))
    (hread : ∀ s i, P s → P (checkedRead .scan i s).1) (hfire : ∀ s i r, P s → P (fireRule asides ev i r s))
    (l : List (Fin 256)) (n : Nat) (s : State) (h : P s) : P (scanRules asides ev n s l).1 := by
  induction l generalizing n s with
  | nil => exact h
  | cons i rest ih =>
    obtain ⟨now, hn⟩ : ∃ now, now = during asides (.fetch i) s := ⟨_, rfl⟩
    have hnow : P now := hn ▸ during_induct asides P hbesides _ s h
    have hs : P (scanRule asides ev i now).1 := by
      obtain hc | ⟨r, -, -, hc⟩ := scanRule_cases asides ev now i
      · rw [hc]; exact hread now i hnow
      · rw [hc]; exact hfire _ i r (hread now i hnow)
    by_cases he : now.rule i = .enabled
    · cases hf : (scanRule asides ev i now).2.isSome with
      | false => rw [scanRules_skip asides ev n s now i rest hn he hf]; exact ih n _ hs
      | true =>
        rw [scanRules_fire asides ev n s now i rest hn he hf]
        split
        · exact ih (n + 1) _ hs
        · exact hs
    · rw [scanRules_pass asides ev n s now i rest hn he]; exact ih n now hnow

/-! ### The actions of a rule -/

/-- A property that every performed action, every alert and every step of another block keeps is kept by a rule's
actions. -/
theorem runActions_induct (P : State → Prop) (ev : Event) (rule : Fin 256) (home : Option (Fin 16))
    (hbesides : ∀ c s, P s → P (besides c s)) (hact : ∀ s a s', P s → runAction s ev home a = .done s' → P s')
    (hraise : ∀ s al, P s → P (s.raise al)) (acts : List Action) (n : Nat) (s : State) (h : P s) :
    P (runActions asides ev rule home n s acts) := by
  induction acts generalizing n s with
  | nil => exact h
  | cons a rest ih =>
    rw [runActions]
    have hnow := during_induct asides P hbesides (.action rule n) s h
    cases ha : runAction (during asides (.action rule n) s) ev home a with
    | done s' => exact ih (n + 1) s' (hact _ a s' hnow ha)
    | fault code => exact hraise _ _ hnow

/-- A home-quest action by the state of its home quest (R65, R131). -/
theorem runAction_home (s : State) (ev : Event) (q : Fin 16) (a : Action) (ha : a.isHome = true) :
    ((s.quest q).state = .idle ∧ runAction s ev (some q) a = .fault .questUndefined) ∨
    ((s.quest q).state ≠ .idle ∧ (s.quest q).state ≠ .active ∧ runAction s ev (some q) a = .done s) ∨
    ((s.quest q).state = .active ∧
      runAction s ev (some q) a =
        if a.isSetIf || condHolds a.condition (s.quest q).flags then performAction s ev (some q) a else .done s) := by
  unfold runAction
  cases hs : (s.quest q).state <;> simp [ha, hs]

/-- An action that is no home-quest action is performed whatever the home quest's state (R131). -/
theorem runAction_free (s : State) (ev : Event) (home : Option (Fin 16)) (a : Action) (ha : a.isHome = false) :
    runAction s ev home a = performAction s ev home a := by simp [runAction, ha]

end Sys2Proof.Machine
end

