-- ==== Sys2Proof/Laws/Uplink.lean ====
section
/-! SUPPORT. What the receiver's shared operations can do (R165 to R170). -/

namespace Sys2Proof.Machine

open Sys2Proof

/-- A rise of the buffer count sets the receive-held mark and owes a HOLD, or changes nothing (R170). -/
theorem Uplink.afterRise_cases (u : Uplink) :
    (384 ≤ u.bufferCount ∧ u.receiveHeld = false ∧
      u.afterRise = { u with receiveHeld := true, flowOwed := u.flowOwed ++ [.hold] }) ∨
    ((u.bufferCount < 384 ∨ u.receiveHeld = true) ∧ u.afterRise = u) := by
  unfold Uplink.afterRise Config.bufferHoldLevel
  by_cases h : 384 ≤ u.bufferCount
  · cases hr : u.receiveHeld with
    | false => exact .inl ⟨h, rfl, by simp [h]⟩
    | true => exact .inr ⟨.inr rfl, by simp⟩
  · exact .inr ⟨.inl (by omega), by simp [h]⟩

/-- A fall of the buffer count clears the receive-held mark and owes a GO, or changes nothing (R170). -/
theorem Uplink.afterFall_cases (u : Uplink) :
    (u.bufferCount ≤ 128 ∧ u.receiveHeld = true ∧
      u.afterFall = { u with receiveHeld := false, flowOwed := u.flowOwed ++ [.go] }) ∨
    ((128 < u.bufferCount ∨ u.receiveHeld = false) ∧ u.afterFall = u) := by
  unfold Uplink.afterFall Config.bufferGoLevel
  by_cases h : u.bufferCount ≤ 128
  · cases hr : u.receiveHeld with
    | true => exact .inl ⟨h, rfl, by simp [h]⟩
    | false => exact .inr ⟨.inr rfl, by simp⟩
  · exact .inr ⟨.inl (by omega), by simp [h]⟩

/-- A rise of the buffer count changes the receive-held mark and the flow bytes owed as R170 says, and nothing else. -/
theorem Uplink.afterRise_becomes (u : Uplink) : Uplink.becomes u u.afterRise (marksAfterRise u.bufferCount u.marks) := by
  unfold Uplink.becomes marksAfterRise Uplink.marks
  obtain ⟨hc, hr, h⟩ | ⟨hc, h⟩ := u.afterRise_cases <;> rw [h]
  · simp [hc, hr]
  · rw [if_neg (by rintro ⟨h1, h2⟩; exact hc.elim (by omega) fun hr => by simp [hr] at h2)]

/-- A fall of the buffer count changes the receive-held mark and the flow bytes owed as R170 says, and nothing else. -/
theorem Uplink.afterFall_becomes (u : Uplink) : Uplink.becomes u u.afterFall (marksAfterFall u.bufferCount u.marks) := by
  unfold Uplink.becomes marksAfterFall Uplink.marks
  obtain ⟨hc, hr, h⟩ | ⟨hc, h⟩ := u.afterFall_cases <;> rw [h]
  · simp [hc, hr]
  · rw [if_neg (by rintro ⟨h1, h2⟩; exact hc.elim (by omega) fun hr => by simp [hr] at h2)]

@[simp] theorem Uplink.afterRise_frames (u : Uplink) : u.afterRise.frames = u.frames := by
  obtain ⟨-, -, h⟩ | ⟨-, h⟩ := u.afterRise_cases <;> rw [h]
@[simp] theorem Uplink.afterRise_part (u : Uplink) : u.afterRise.part = u.part := by
  obtain ⟨-, -, h⟩ | ⟨-, h⟩ := u.afterRise_cases <;> rw [h]
@[simp] theorem Uplink.afterRise_rx (u : Uplink) : u.afterRise.rx = u.rx := by
  obtain ⟨-, -, h⟩ | ⟨-, h⟩ := u.afterRise_cases <;> rw [h]
@[simp] theorem Uplink.afterRise_escape (u : Uplink) : u.afterRise.escape = u.escape := by
  obtain ⟨-, -, h⟩ | ⟨-, h⟩ := u.afterRise_cases <;> rw [h]
@[simp] theorem Uplink.afterFall_frames (u : Uplink) : u.afterFall.frames = u.frames := by
  obtain ⟨-, -, h⟩ | ⟨-, h⟩ := u.afterFall_cases <;> rw [h]
@[simp] theorem Uplink.afterFall_part (u : Uplink) : u.afterFall.part = u.part := by
  obtain ⟨-, -, h⟩ | ⟨-, h⟩ := u.afterFall_cases <;> rw [h]
@[simp] theorem Uplink.afterFall_rx (u : Uplink) : u.afterFall.rx = u.rx := by
  obtain ⟨-, -, h⟩ | ⟨-, h⟩ := u.afterFall_cases <;> rw [h]

/-- A garbled frame's bytes leave the buffer, the complete frames stay, and one alert is raised (R167). -/
theorem State.garble_spec (s : State) (next : RxState) :
    (s.garble next).uplink.rx = next ∧ (s.garble next).uplink.part = [] ∧
    (s.garble next).uplink.frames = s.uplink.frames ∧
    (s.garble next).notices.alerts = raiseAlert s.notices.alerts .uplinkGarbled ∧
    (s.garble next).notices.quests = s.notices.quests ∧ (s.garble next).notices.events = s.notices.events := by
  refine ⟨?_, ?_, ?_, rfl, rfl, rfl⟩ <;> simp [State.garble]

/-- A garbled frame is garbled as R167 and R170 say, from the marks that the store before it has left. -/
theorem State.garble_garbledTo (s : State) (next : RxState) : s.garbledTo (s.garble next) next s.uplink.marks := by
  refine ⟨rfl, ?_⟩
  simpa [Uplink.bufferCount, Uplink.marks, State.garble] using
    Uplink.afterFall_becomes { s.uplink with rx := next, escape := false, part := [] }

/-- Everything storing a decoded byte can do (R166, R167, R169). -/
theorem State.storeByte_cases (s : State) (b : Byte) :
    (512 ≤ s.uplink.bufferCount ∧ s.storeByte b = s.garble .discard) ∨
    (s.uplink.bufferCount < 512 ∧ ∃ u, u = { s.uplink with escape := false, part := s.uplink.part ++ [b] }.afterRise ∧
      (((byteAt u.part 0).toNat = 0 ∨ 41 < (byteAt u.part 0).toNat) ∧ s.storeByte b = (s.withUplink u).garble .discard ∨
       ((byteAt u.part 0).toNat ≠ 0 ∧ (byteAt u.part 0).toNat ≤ 41) ∧
        (u.part.length = (byteAt u.part 0).toNat + 2 ∧ s.storeByte b = (s.withUplink u).endFrame ∨
         u.part.length ≠ (byteAt u.part 0).toNat + 2 ∧ s.storeByte b = s.withUplink u))) := by
  unfold State.storeByte Config.bufferCapacity frameSize
  by_cases hc : 512 ≤ s.uplink.bufferCount
  · exact .inl ⟨hc, by rw [if_pos hc]⟩
  · refine .inr ⟨by omega, _, rfl, ?_⟩
    rw [if_neg hc]
    simp only
    split
    · rename_i h; exact .inl ⟨h, rfl⟩
    · rename_i h
      refine .inr ⟨by omega, ?_⟩
      split
      · rename_i h2; exact .inl ⟨h2, rfl⟩
      · rename_i h2; exact .inr ⟨h2, rfl⟩

/-- The end of a frame keeps it whole or garbles it, by its sum (R167). -/
theorem State.endFrame_cases (s : State) :
    (byteSum s.uplink.part % 256 = 0 ∧
      s.endFrame = s.withUplink { s.uplink with
        rx := .idle, escape := false, frames := s.uplink.frames ++ [s.uplink.part], part := [] }) ∨
    (byteSum s.uplink.part % 256 ≠ 0 ∧ s.endFrame = s.garble .idle) := by
  unfold State.endFrame
  split
  · rename_i h; exact .inl ⟨h, rfl⟩
  · rename_i h; exact .inr ⟨h, rfl⟩

end Sys2Proof.Machine
end

