-- ==== Sys2Proof/Tests/Slice0.lean ====
section
/-! SUPPORT. Tests: the refusals of WellFormed, the spec's worked examples one command at a time, and for each statement
with hypotheses a state that meets them. Expected values stand in the chapter each test names. -/

namespace Sys2Proof.Tests

set_option Elab.async false

open Sys2Proof Sys2Proof.Machine

/-! ### Building small states -/

/-- The state a command leaves. -/
def after (c : Instr) (s : State) : State :=
  match exec c s with
  | .next t => t
  | .fault _ => s
  | .refused _ => s

/-- A management request is pending. -/
def asked (kind : Byte) (body : List Byte) (s : State) : State := s.withHandler (.pending kind body)

/-- The status and content of the reply that waits. -/
def answer (s : State) : Option (Status × List Byte) :=
  match s.handler with
  | .reply r => some (r.status, r.body)
  | _ => none

/-- The alerts that wait. -/
def alerts (s : State) : List Alert := s.notices.alerts.map (·.alert)

/-- An arm in RUNNING, in a rotation that had a PRESENT position at its start. -/
def running (i : ArmId) (s : State) : State :=
  s.withArm i { s.arm i with
    phase := .running
    counter := 1
    record := ⟨true, false, false⟩
    startMark := some ⟨false, false⟩ }

/-- A tile map record that is not excluded, with the presence of its position. -/
def tile (i : ArmId) (p : Fin 32) (kind : TileKind) (zone : Fin 16) (state : Presence) (misses : Nat) (toggle : Bool)
    (s : State) : State :=
  (s.withTileMap (s.tileMap.set (tileIndex i p) ⟨false, kind, zone, false⟩)).withArm i
    ((s.arm i).withPresence p ⟨state, misses, toggle, 0, false⟩)

/-- A poll of a position is awaiting its answer. -/
def polled (i : ArmId) (p : Fin 32) (s : State) : State :=
  s.withArm i { s.arm i with
    position := p
    pass := .visiting true
    rotationPolled := true
    line := .poll ⟨p, (s.presence i p).state == .unknown, (s.presence i p).state == .present⟩ [] }

/-- A rule written with a record of these bytes. -/
def rule (i : Fin 256) (state : RuleState) (bytes : List Byte) (s : State) : State :=
  s.writeRule i (encodeEntry (packRecord bytes)) state

/-- A quest record and its timer. -/
def quest (q : Fin 16) (state : QuestState) (stage : Fin 16) (d : QuestDef) (t : Timer) (s : State) : State :=
  (s.withQuest q { Quest.powerOn with definition := d, state := state, stage := stage, counters := d.initials }).withTimer q t

/-- A record in an intake FIFO. -/
def queued (r : EventRecord) (s : State) : State :=
  s.withArm r.arm { s.arm r.arm with fifo := (s.arm r.arm).fifo ++ [r] }

/-! ### WellFormed refuses -/

theorem test_wf_long_body : (Instr.identify (List.replicate 41 0)).wf = false := by decide
theorem test_wf_longest_body : (Instr.questWrite (List.replicate 40 0)).wf = true := by decide
theorem test_wf_hold_is_no_frame_byte : (Instr.uplinkByteReceived 0xF1 true).wf = false := by decide
theorem test_wf_go_is_no_frame_byte : (Instr.uplinkByteReceived 0xF2 true).wf = false := by decide
theorem test_wf_bad_hold_is_a_frame_byte : (Instr.uplinkByteReceived 0xF1 false).wf = true := by decide
theorem test_wf_empty_answer : (Instr.pollAnswer .a []).wf = false := by decide
theorem test_wf_empty_stray : (Instr.strayFrame .b []).wf = false := by decide

/-! ### Counters and scores (05 "Worked cases") -/

/-- Case 1. -/
theorem test_count_clamped_add :
    countAction .add (some ⟨-100, 30500⟩) 30000 1000 = (30500, ⟨false, false, false, false, true⟩) := by decide
/-- Case 2. -/
theorem test_count_compare_negative : countAction .cmp none (-5) 3 = (-5, ⟨true, false, false, false, false⟩) := by decide
/-- Case 2, the conditions HIGHER, LESS, AT-LEAST, MORE, NOT-HIGHER. -/
theorem test_conditions_after_compare :
    ([9, 12, 11, 13, 10] : List (Fin 16)).map (condHolds · (guardFlags (-5) 3)) = [true, true, false, false, false] := by
  decide
/-- Case 3. -/
theorem test_count_wraps : countAction .add none 32767 1 = (-32768, ⟨true, false, true, false, false⟩) := by decide
/-- Case 4. -/
theorem test_count_clamped_sub : countAction .sub (some ⟨0, 9⟩) 5 7 = (0, ⟨false, true, false, true, true⟩) := by decide
/-- Case 5. -/
theorem test_count_sub_stored : countAction .sub (some ⟨0, 200⟩) 100 300 = (0, ⟨false, true, false, true, true⟩) := by decide
/-- Case 5. -/
theorem test_count_cmp_not_stored :
    countAction .cmp (some ⟨0, 200⟩) 100 300 = (100, ⟨true, false, false, true, false⟩) := by decide
/-- Case 6. -/
theorem test_count_most_negative : countAction .sub none (-32768) 1 = (32767, ⟨false, false, true, false, false⟩) := by decide
/-- Case 6. -/
theorem test_count_most_negative_clamped :
    countAction .sub (some ⟨-32768, 32767⟩) (-32768) 1 = (-32768, ⟨true, false, true, false, true⟩) := by decide
/-- Case 8. -/
theorem test_count_carry : countAction .add none (-1) (-1) = (-2, ⟨true, false, false, true, false⟩) := by decide
/-- Case 9. -/
theorem test_count_xor : countAction .xor none 255 (-256) = (-1, ⟨true, false, false, false, false⟩) := by decide
/-- Case 9. -/
theorem test_count_test : countAction .test none 255 (-256) = (255, ⟨false, true, false, false, false⟩) := by decide
/-- Case 10. -/
theorem test_set_if_clamped :
    setIfAction 12 (some ⟨2, 5⟩) ⟨true, false, false, false, false⟩ = (2, ⟨false, false, false, false, true⟩) := by decide
/-- Case 11: AT-LEAST 500 of 612, 499 and 500, and MORE of 500. -/
theorem test_guard_on_a_score :
    [condHolds 11 (guardFlags 612 500), condHolds 11 (guardFlags 499 500), condHolds 11 (guardFlags 500 500),
     condHolds 13 (guardFlags 500 500)] = [true, false, true, false] := by decide
/-- "Scores": 0387 + 0456. -/
theorem test_score_add : scoreAdd (Score.ofNat 387 true) (Score.ofNat 456 false) = ⟨0, 8, 4, 3, false⟩ := by decide
/-- "Scores": 9950 + 75 is held at 9999. -/
theorem test_score_add_saturates : scoreAdd (Score.ofNat 9950 false) (Score.ofNat 75 false) = ⟨9, 9, 9, 9, true⟩ := by decide
/-- "Scores": 1203 − 457. -/
theorem test_score_sub : scoreSub (Score.ofNat 1203 false) (Score.ofNat 457 false) = ⟨0, 7, 4, 6, false⟩ := by decide
/-- "Scores": 0040 − 0100 is held at 0000. -/
theorem test_score_sub_saturates : scoreSub (Score.ofNat 40 false) (Score.ofNat 100 false) = ⟨0, 0, 0, 0, true⟩ := by decide

/-! ### Frames (11 "Arm frames on the line", R181, R182) -/

theorem test_poll_frame : pollFrame 5 false true = [0x11, 0x05, 0x4E] := by decide
theorem test_greeting_poll_frame : pollFrame 3 true true = [0x19, 0x03, 0x40] := by decide
theorem test_press_answer :
    judgeAnswer ⟨5, false, true⟩ (goodBytes [0xA4, 0x05, 0xFB]) = .ok (.event .press false true) := by decide
theorem test_hello_answer : judgeAnswer ⟨3, true, false⟩ (goodBytes [0x90, 0x03, 0xC8]) = .error .shape := by decide
theorem test_hello_pad_answer :
    judgeAnswer ⟨3, true, false⟩ (goodBytes [0x90, 0x03, 0x01, 0xC8]) = .ok (.hello .pad) := by decide
/-- A PRESS with the address byte 6 after a greeting poll to B.03 is counted STRAY. -/
theorem test_wrong_address_is_stray :
    judgeAnswer ⟨3, true, false⟩ (goodBytes [0xA4, 0x06, 0xF8]) = .error .stray := by decide
theorem test_request_frame_escapes_its_check_byte : frameLine 0x03 [0x0A] = [0xC5, 0x02, 0x03, 0x0A, 0xF0, 0xB1] := by decide
theorem test_reply_frame :
    replyLine ⟨0x03, .ok, [0x0A, 0, 1, 2, 0, 1, 0]⟩ = [0xC5, 0x08, 0x23, 0x0A, 0, 1, 2, 0, 1, 0, 0xC7] := by decide
theorem test_refused_reply_kind : replyKindByte (Reply.invalid 0x03) = 0x63 := by decide

/-! ### Rule memory (08) -/

/-- R142's table: positions 36, 12 and 230, the first and the last data position. -/
theorem test_columns : [36, 12, 230, 0, 223].map column = [43, 18, 64, 3, 232] := by decide

/-- The 28 data bytes of a PLACE rule in ZONE 3 for PIECE 12. -/
def pieceRule : List Byte := [3, 0, 0x11, 3, 12, 255, 255, 255, 0, 0, 0, 0, 24, 0, 0, 4]

/-- "A scrub that corrects": rule 40 with position 36 inverted, the scrub index at 40. -/
def upset40 : State :=
  let s := after (.bitUpset 40 36) (rule 40 .enabled pieceRule State.reset)
  s.withMemory { s.memory with scrubIndex := 40 }

theorem test_upset_changes_the_piece : recordByte (entryData upset40.memory.entries[40]) 4 = 28 := by decide +kernel
theorem test_scrub_slot_corrects :
    (after .scrubSlot upset40).memory.writeBack = some ⟨40, encodeEntry (packRecord pieceRule)⟩ ∧
    (after .scrubSlot upset40).memory.capture = some ⟨.corrected 36, 40, .scrub⟩ ∧
    (after .scrubSlot upset40).memory.corrected = 1 ∧ (after .scrubSlot upset40).memory.scrubIndex = 41 := by
  decide +kernel
/-- "A scrub that corrects rule 10": a second upset at position 232 makes two changed bits. -/
theorem test_scrub_slot_quarantines :
    (after .scrubSlot (after (.bitUpset 40 232) upset40)).rule 40 = .quarantined ∧
    alerts (after .scrubSlot (after (.bitUpset 40 232) upset40)) = [.started .powerOn, .ruleLost 40] := by
  decide +kernel
theorem test_scrub_write_back :
    readOutcome (after .scrubWriteBack (after .scrubSlot upset40)).memory.entries[40] = .clean := by decide +kernel
/-- "A write during a scrub visit": the pending write-back is cancelled. -/
theorem test_rule_write_cancels_the_write_back :
    (after (.ruleWrite (40 :: pieceRule)) (asked 0x0A (40 :: pieceRule) (after .scrubSlot upset40))).memory.writeBack =
      none := by decide +kernel
/-- "Exercising the check paths" step 1: start-disabled, flip list 100. -/
theorem test_raw_write :
    let body := 250 :: 1 :: ([3, 0x40, 0x11, 3, 12, 255, 255, 255] ++ List.replicate 20 0 ++ [100])
    answer (after (.rawWrite body) (asked 0x0F body State.reset)) = some (.ok, [250, 2]) ∧
    readOutcome (after (.rawWrite body) (asked 0x0F body State.reset)).memory.entries[250] = .oneChanged 100 := by
  decide +kernel
/-- R184: an EMPTY entry after power-on. -/
theorem test_raw_read_of_an_empty_entry :
    answer (after (.rawRead [7]) (asked 0x0E [7] State.reset)) = some (.ok, 7 :: 0 :: List.replicate 30 0) := by
  decide +kernel
/-- "A scrub that corrects", the DIAG-CAPTURE after it: CORRECTED, 40, 36, SCRUB, counts 1 and 0. -/
theorem test_diag_capture :
    answer (after (.diagCapture []) (after .scrubSlot upset40)) = some (.ok, [1, 0, 40, 36, 1, 0, 1, 0]) := by
  decide +kernel
/-- The RULE-READ of rule 40 finds the same bit (R106, R144). -/
theorem test_rule_read_corrects :
    answer (after (.ruleRead [40]) (asked 0x0B [40] upset40)) =
      some (.ok, 40 :: 1 :: (pieceRule ++ List.replicate 12 0)) := by decide +kernel
theorem test_rule_disable :
    answer (after (.ruleDisable [40]) (asked 0x0D [40] upset40)) = some (.ok, [40, 2]) := by decide +kernel
theorem test_rule_enable_of_an_empty_rule :
    answer (after (.ruleEnable [41]) (asked 0x0C [41] upset40)) = some (.invalid, []) := by decide +kernel

/-! ### Load checks (06 "Worked example: load checks") -/

/-- The reply to a RULE-WRITE of these record bytes at index 9. -/
def written (bytes : List Byte) : Option (Status × List Byte) :=
  answer (after (.ruleWrite (9 :: bytes)) (asked 0x0A (9 :: bytes) State.reset))

theorem test_load_unconditional_score :
    written [1, 0, 0x10, 2, 0, 255, 255, 255, 0, 0, 0, 0, 10, 0x06, 0, 10] = some (.ok, [9, 1]) := by decide +kernel
theorem test_load_checks_refuse :
    [written [1, 0, 0x10, 2, 0, 255, 255, 255, 0, 0, 0, 0, 10, 0x16, 0, 10],
     written [6, 0, 0x10, 2, 0, 4, 255, 255, 0, 0, 0, 0, 17, 0, 0, 100],
     written [6, 0, 0x30, 4, 0, 4, 255, 255, 0, 0, 0, 0, 17, 0, 0, 0],
     written [3, 0, 0x01, 0, 70, 255, 255, 255, 0, 0, 0, 0, 24, 0, 0, 1],
     written [7, 0x40, 0x40, 200, 0, 255, 255, 255, 0, 0, 0, 0, 19, 0x01, 64, 1]] =
      List.replicate 5 (some (.invalid, [])) := by decide +kernel
theorem test_load_stage_and_start :
    written [4, 1, 0x22, 44, 3, 9, 255, 255, 0, 0, 0, 0, 13, 0, 0, 12, 14, 10, 0, 0] = some (.ok, [9, 1]) := by
  decide +kernel
theorem test_load_all_reads_no_address :
    written [7, 0x40, 0x40, 200, 0, 255, 255, 255, 0, 0, 0, 0, 19, 0x03, 64, 1] = some (.ok, [9, 2]) := by decide +kernel

/-! ### Events (06, 07, 12) -/

/-- The quest of the Bridge of Lanterns. -/
def bridgeQuest : QuestDef :=
  { QuestDef.powerOn with finalStage := 2, startTimer := some 6000, counters := #v[⟨0, some ⟨0, 3⟩⟩, ⟨0, none⟩, ⟨0, none⟩, ⟨0, none⟩] }

/-- The Bridge of Lanterns right after QUEST-START. -/
def bridge : State :=
  let s := running .a (running .b (tile .a 12 .reader 4 .present 0 true (tile .a 14 .reader 4 .present 0 true
    (tile .b 5 .reader 4 .present 0 true State.reset))))
  let s := s.withEngine { s.engine with seatCount := 2 }
  let s := quest 0 .active 0 bridgeQuest ⟨true, 6000⟩ s
  let s := rule 10 .enabled [3, 0x12, 0x13, 4, 0, 0, 0, 255, 0, 0, 0, 0,
    2, 0, 0, 1, 10, 0x07, 0, 50, 19, 0x02, 4, 7] s
  rule 11 .enabled [3, 0x01, 0x13, 4, 0, 0, 0, 255, 0, 0, 0, 0, 12, 0, 0, 0, 22, 0, 0, 0] s

/-- A piece placed at a position in zone 4. -/
def placed (i : ArmId) (p : Fin 32) (piece : Fin 64) (seat : Fin 6) : EventRecord :=
  ⟨i, p, .place ⟨piece, .player seat⟩, 4⟩

theorem test_bridge_first_lantern :
    let t := after .tileEventTake (queued (placed .a 12 3 0) bridge)
    t.notices.quests = [.score 0 (Score.ofNat 50 false), .stage 0 1, .turn 1] ∧ t.notices.events = [] ∧
    t.armA.effects = [⟨.zone 4, .light 7⟩] ∧ t.armB.effects = [⟨.zone 4, .light 7⟩] ∧
    (t.quest 0).counters[0] = 1 ∧ t.engine.turn = 1 := by decide +kernel
theorem test_bridge_out_of_turn :
    let t := after .tileEventTake (queued (placed .a 14 8 1) bridge)
    t.notices.quests = [] ∧ t.notices.events = [] ∧ t.engine.quests = bridge.engine.quests := by decide +kernel
theorem test_bridge_last_lantern :
    let x := bridge.quest 0
    let s := bridge.withQuest 0 { x with stage := 2, counters := x.counters.set 0 2 }
    let t := after .tileEventTake (queued (placed .a 14 4 0) s)
    (t.quest 0).state = .complete ∧ (t.quest 0).endReason = .completed ∧ (t.quest 0).counters[0] = 3 ∧
    (t.quest 0).flags.k = false ∧ t.timers[0] = ⟨false, 6000⟩ ∧
    t.notices.quests = [.score 0 (Score.ofNat 50 false), .complete 0, .turn 1] := by decide +kernel

/-- 04 "Stop and expiry meeting": the tick falls before the first or behind the second action of the rule. -/
theorem test_tick_and_stop_meet :
    let s := quest 4 .active 0 QuestDef.powerOn ⟨true, 1⟩ (queued ⟨.a, 3, .press, 0⟩
      (rule 9 .enabled [1, 1, 0, 0, 0, 4, 255, 255, 0, 0, 0, 0, 10, 0, 0, 1, 18, 0, 0, 0] State.reset))
    let t (m : Moment) := after .tileEventTake (s.withMeanwhile [[⟨m, .questTick⟩]])
    (t (.action 9 2)).timers[4] = ⟨false, 0⟩ ∧ (t .echo).timers[4] = ⟨false, 1⟩ ∧ (t .echo).engine.expiry = [] ∧
    (t (.action 9 2)).engine.expiry = [] ∧ ((t (.action 9 2)).quest 4).state = .active ∧
    (t .echo).notices.quests = [.score 0 (Score.ofNat 1 false)] := by decide +kernel
/-- R51, R130: an arm that stops inside the item drops the item's later effects, and has its earlier ones emptied. -/
theorem test_arm_stops_inside_an_item :
    let s := (queued (placed .a 12 3 0) bridge).withMeanwhile [[⟨.action 10 3, .armStop [1]⟩, ⟨.fetch 11, .armStart [1]⟩]]
    let t := after .tileEventTake s
    t.armA.effects = [⟨.zone 4, .light 7⟩] ∧ t.armB.effects = [] ∧ t.armB.phase = .off ∧ t.meanwhile = [] ∧
    t.handler = .reply (Reply.done 0x05 [1, 0]) := by decide +kernel

/-- 06 "One scan through a changing table". -/
def changing : State :=
  let s := running .a (tile .a 3 .pad 2 .present 0 true State.reset)
  let s := s.withEngine { s.engine with seatCount := 2, unclaimedEcho := true }
  let s := quest 1 .active 0 { QuestDef.powerOn with finalStage := 3 } ⟨false, 0⟩ s
  let s := rule 5 .enabled [3, 0, 0, 0, 0, 255, 255, 255, 0, 0, 0, 0, 24, 0, 0, 1] s
  let s := rule 8 .disabled [1, 0, 0x10, 2, 0, 255, 255, 255, 0, 0, 0, 0, 10, 6, 0, 1] s
  let s := rule 12 .enabled [1, 0x32, 0x10, 2, 0, 255, 255, 255, 0, 0, 0, 0, 10, 6, 0, 10, 25, 0, 0, 8, 25, 0, 0, 40] s
  let s := rule 20 .enabled [5, 0x10, 0x02, 0, 1, 255, 255, 255, 0, 0, 0, 0, 24, 0, 0, 2] s
  let s := rule 25 .enabled [1, 0x11, 0, 0, 0, 1, 1, 0, 0, 0, 0, 0, 12, 0, 0, 0, 26, 0, 0, 30] s
  let s := rule 30 .enabled [1, 0x10, 0, 0, 0, 1, 255, 255, 0, 0, 0, 0, 24, 0, 0, 3] s
  let s := rule 40 .disabled [1, 0x11, 0x20, 3, 0, 1, 1, 1, 0, 0, 0, 0, 19, 0, 0, 9, 22, 0, 0, 0] s
  let s := rule 50 .enabled [1, 0x10, 0, 0, 0, 1, 255, 255, 0, 0, 0, 0, 24, 0, 0, 7] s
  queued ⟨.a, 3, .press, 2⟩ (rule 60 .enabled [1, 0, 0, 0, 0, 1, 255, 255, 0, 0, 0, 0, 24, 0, 0, 8] s)

theorem test_scan_through_a_changing_table :
    let t := after .tileEventTake changing
    t.notices.quests = [.score 0 (Score.ofNat 10 false), .stage 1 1, .turn 1, .signal (some 1) 7] ∧
    t.armA.effects = [⟨.tile 3, .light 9⟩] ∧ t.notices.events = [] ∧
    ([8, 12, 30, 40] : List (Fin 256)).map t.rule = [.enabled, .spent, .disabled, .enabled] := by decide +kernel

/-- R144, R145: the scan corrects a rule with one changed bit and fires it, and loses one with two. -/
theorem test_scan_fetches_through_the_check :
    let one := after (.bitUpset 50 7) (after (.bitUpset 12 3) (after (.bitUpset 12 200) changing))
    let t := after .tileEventTake one
    t.memory.entries[50] = changing.memory.entries[50] ∧ t.memory.corrected = 1 ∧ t.memory.uncorrectable = 1 ∧
    t.rule 12 = .quarantined ∧ t.memory.capture = some ⟨.uncorrectable, 12, .scan⟩ ∧
    t.notices.quests = [.stage 1 1, .signal (some 1) 7, .signal (some 1) 8] := by decide +kernel

/-- 07 "A rule that faults". -/
theorem test_rule_that_faults :
    let s := rule 71 .enabled [1, 0, 0, 0, 0, 255, 255, 255, 0, 0, 0, 0, 24, 0, 0, 4]
      (rule 70 .enabled [1, 0x12, 0x10, 1, 0, 5, 255, 255, 0, 0, 0, 0, 10, 6, 0, 10, 2, 0, 0, 1, 19, 0, 0, 3] changing)
    let s := s.withArm .a { s.armA with fifo := [⟨.a, 2, .press, 1⟩] }
    let s := s.withEngine { s.engine with rules := (Vector.replicate 256 RuleState.empty).set 70 .enabled |>.set 71 .enabled }
    let t := after .tileEventTake s
    alerts t = [.started .powerOn, .ruleFault 70 2 .questUndefined] ∧
    t.notices.quests = [.score 0 (Score.ofNat 10 false), .signal none 4] ∧ t.notices.events = [] ∧
    t.armA.effects = [] := by decide +kernel

/-- The definition of "Six Lanterns" as its QUEST-WRITE body (04). -/
def lanternsBody : List Byte :=
  [2, 1, 255, 255, 1, 0x11, 0x01, 0xF4, 0, 3, 0, 0, 0, 3] ++ List.replicate 18 0

/-- Six Lanterns (04 "A repeating countdown"). -/
def lanterns : QuestDef :=
  ⟨1, none, none, .event, some 500, #v[⟨3, some ⟨0, 3⟩⟩, ⟨0, none⟩, ⟨0, none⟩, ⟨0, none⟩]⟩

theorem test_quest_write :
    (after (.questWrite lanternsBody) (asked 0x10 lanternsBody State.reset)).quest 2 = Quest.loaded lanterns := by
  decide +kernel
theorem test_quest_start :
    (after (.questStart [2]) (asked 0x12 [2] (quest 2 .loaded 0 lanterns ⟨false, 0⟩ State.reset))).timers[2] =
      ⟨true, 500⟩ := by decide +kernel
theorem test_quest_start_prerequisite :
    answer (after (.questStart [1]) (asked 0x12 [1]
      (quest 1 .loaded 0 { QuestDef.powerOn with prerequisite := some 0 } ⟨false, 0⟩ State.reset))) =
      some (.invalid, []) := by decide +kernel
theorem test_quest_read :
    answer (after (.questRead [3]) (asked 0x11 [3] State.reset)) =
      some (.ok, 0 :: 0xE0 :: List.replicate 38 0) := by decide +kernel
theorem test_quest_abort :
    let s := quest 4 .active 0 QuestDef.powerOn ⟨false, 0⟩ State.reset
    let s := s.withEngine { s.engine with expiry := [4] }
    let t := after (.questAbort [4]) (asked 0x13 [4] s)
    (t.quest 4).endReason = .aborted ∧ t.engine.expiry = [] ∧ t.notices.quests = [] := by decide +kernel

/-- Rule 60 and the expiry of quest 2, its counter 0 at this value. -/
def countdown (counter : Half) : State :=
  let s := rule 60 .enabled [6, 2, 0x30, 2, 0, 2, 255, 255, 0, 0, 0, 0, 3, 0, 0, 1, 17, 0x20, 0x01, 0xF4, 16, 0x10, 0, 0]
    (quest 2 .active 0 lanterns ⟨false, 0⟩ State.reset)
  let x := s.quest 2
  let s := s.withQuest 2 { x with counters := x.counters.set 0 counter }
  s.withEngine { s.engine with expiry := [2] }

theorem test_countdown_repeats :
    let t := after .expiryTake (countdown 3)
    (t.quest 2).counters[0] = 2 ∧ t.timers[2] = ⟨true, 500⟩ ∧ t.engine.expiry = [] ∧ t.notices.quests = [] := by
  decide +kernel
theorem test_countdown_ends :
    let t := after .expiryTake (countdown 1)
    (t.quest 2).endReason = .failedByRule ∧ t.timers[2] = ⟨false, 0⟩ ∧
    t.notices.quests = [.failed 2 .failedByRule] := by decide +kernel
theorem test_tick :
    let s := quest 4 .active 0 lanterns ⟨true, 1⟩ (quest 2 .active 0 lanterns ⟨true, 500⟩ State.reset)
    let t := after .questTick s
    t.timers[2] = ⟨true, 499⟩ ∧ t.timers[4] = ⟨false, 0⟩ ∧ t.engine.expiry = [4] := by decide +kernel
theorem test_timer_expiry :
    (after (.questTimerExpiry 4) (quest 4 .active 0 lanterns ⟨true, 1⟩ State.reset)).engine.expiry = [4] := by
  decide +kernel

/-- 07 "The arbiter after a busy item": what is offered at choice 1. -/
def offered : State :=
  let s := queued ⟨.a, 1, .press, 0⟩ (queued ⟨.b, 1, .lift ⟨1, .neutral⟩, 0⟩ State.reset)
  (s.withEngine { s.engine with expiry := [3], inject := some 5 }).withHandler (.pending 0x11 [3])

theorem test_arbiter_order :
    [offered.choose, (offered.withHandler .idle).choose,
     ((offered.withHandler .idle).withEngine { offered.engine with expiry := [] }).choose,
     ((offered.withHandler .idle).withEngine { offered.engine with expiry := [], inject := none }).choose,
     ((offered.withHandler .idle).withEngine
       { offered.engine with expiry := [], inject := none, lastServed := .a }).choose] =
      [some (.management 0x11 [3]), some (.expiry 3), some (.inject 5), some (.fifo .a ⟨.a, 1, .press, 0⟩),
       some (.fifo .b ⟨.b, 1, .lift ⟨1, .neutral⟩, 0⟩)] := by decide +kernel
/-- 07 "The host holds the uplink": 14 free QUEST entries are too few. -/
theorem test_admission_fails :
    let s := (offered.withHandler .idle).withNotices ⟨[], List.replicate 18 (.turn 0), []⟩
    s.choose = none := by decide +kernel
/-- 06 "Echo decisions": INJECTED, unclaimed. -/
theorem test_inject_take_echoes :
    (after .injectTake (State.reset.withEngine { State.reset.engine with inject := some 9, unclaimedEcho := true })).notices.events =
      [⟨.injected 9, 0⟩] := by decide +kernel

/-! ### Engine requests (05, 07) -/

/-- 05 "Turns through a seat count change": SETUP with seat count 3 at turn 3. -/
theorem test_setup_moves_the_turn :
    let s := State.reset.withEngine { State.reset.engine with seatCount := 4, turn := 3 }
    let t := after (.setup [3, 12, 0, 1]) (asked 0x08 [3, 12, 0, 1] s)
    t.engine.seatCount = 3 ∧ t.engine.turn = 0 := by decide +kernel
theorem test_setup_refuses_high_mark_17 :
    answer (after (.setup [3, 17, 0, 1]) (asked 0x08 [3, 17, 0, 1] State.reset)) = some (.invalid, []) := by decide +kernel
/-- The host's TURN-SET 3 of three seats is refused. -/
theorem test_turn_set_refuses :
    let s := State.reset.withEngine { State.reset.engine with seatCount := 3, turn := 1 }
    answer (after (.turnSet [3]) (asked 0x16 [3] s)) = some (.invalid, []) ∧
    (after (.turnSet [2]) (asked 0x16 [2] s)).engine.turn = 2 := by decide +kernel
theorem test_score_set_and_read :
    let t := after (.scoreSet [4, 0x03, 0x4B]) (asked 0x14 [4, 0x03, 0x4B] State.reset)
    answer (after (.scoreRead []) (asked 0x15 [] t)) =
      some (.ok, [1, 0, 0, 0, 0, 0, 0, 0, 0, 0, 0, 0x03, 0x4B, 0, 0]) := by decide +kernel
theorem test_score_set_refuses_10000 :
    answer (after (.scoreSet [4, 0x27, 0x10]) (asked 0x14 [4, 0x27, 0x10] State.reset)) = some (.invalid, []) := by
  decide +kernel
theorem test_effect_send_queued :
    let body := [1, 2, 4, 1, 9]
    answer (after (.effectSend body) (asked 0x17 body (running .b State.reset))) = some (.ok, [0]) ∧
    (after (.effectSend body) (asked 0x17 body (running .b State.reset))).armB.effects = [⟨.zone 4, .light 9⟩] := by
  decide +kernel
theorem test_effect_send_dropped :
    answer (after (.effectSend [1, 3, 0, 3]) (asked 0x17 [1, 3, 0, 3] State.reset)) = some (.ok, [1]) := by decide +kernel
theorem test_inject_busy :
    answer (after (.inject [6]) (asked 0x18 [6] (State.reset.withEngine { State.reset.engine with inject := some 5 }))) =
      some (.busy, []) := by decide +kernel
theorem test_hold_and_run :
    (after (.engineHold []) (asked 0x19 [] State.reset)).engine.mode = .hold ∧
    (after (.engineRun []) (asked 0x1A [] (State.reset.withEngine { State.reset.engine with mode := .hold }))).engine.mode =
      .run := by decide +kernel
/-- 05 "Turns through a seat count change", the GAME-RESET after it; 04, both quests LOADED again. -/
theorem test_game_reset :
    let s := quest 0 .complete 2 bridgeQuest ⟨false, 1870⟩ State.reset
    let s := s.withEngine { s.engine with seatCount := 3, turn := 2, scores := s.engine.scores.set 0 (Score.ofNat 9999 true) }
    let t := after (.gameReset []) (asked 0x1B [] s)
    t.quest 0 = Quest.loaded bridgeQuest ∧ t.timers[0] = ⟨false, 0⟩ ∧ t.engine.seatCount = 3 ∧ t.engine.turn = 0 ∧
    t.engine.scores[0] = Score.zero := by decide +kernel

/-! ### Tile map and arms (01, 02) -/

/-- 01 "Enumeration of arm B": the map of B.00 to B.03, arm B ENUMERATING. -/
def enumerating : State :=
  let s := tile .b 0 .pad 2 .unknown 0 true (tile .b 1 .reader 3 .unknown 0 true (tile .b 2 .pad 2 .unknown 0 true
    (tile .b 3 .reader 5 .unknown 0 true State.reset)))
  s.withArm .b { s.armB with phase := .enumerating }

/-- A frame with its check byte right and every stop bit good. -/
def sent (head address : Byte) (body : List Byte) : List LineByte := goodBytes (armFrame head address body)

theorem test_hello_makes_present :
    let t := after (.pollAnswer .b (sent 0x90 0 [1])) (polled .b 0 enumerating)
    t.presence .b 0 = ⟨.present, 0, true, 0, true⟩ ∧ alerts t = [.started .powerOn] := by decide +kernel
theorem test_check_error_is_a_miss :
    let t := after (.pollAnswer .b (goodBytes [0x90, 1, 2, 0])) (polled .b 1 enumerating)
    t.presence .b 1 = ⟨.unknown, 1, true, 0, false⟩ ∧ t.armB.check = 1 ∧ t.armB.pass = .visiting true := by decide +kernel
theorem test_hello_mismatch :
    let t := after (.pollAnswer .b (sent 0x90 2 [2])) (polled .b 2 (tile .b 2 .pad 2 .unknown 0 false enumerating))
    t.presence .b 2 = ⟨.mismatch, 0, true, 0, false⟩ ∧ alerts t = [.started .powerOn, .tileMismatch .b 2] := by
  decide +kernel
/-- Step 9: ABSENT without an alert, and the pass over, arm B becomes RUNNING. -/
theorem test_third_miss_ends_the_enumeration :
    let s := tile .b 3 .reader 5 .unknown 2 true enumerating
    let t := after (.replyWindowClose .b) (polled .b 3 s)
    t.presence .b 3 = ⟨.absent, 3, true, 0, false⟩ ∧ alerts t = [.started .powerOn] ∧ t.armB.phase = .running ∧
    t.armB.counter = 1 := by decide +kernel
theorem test_assign_frame :
    let s := polled .b 0 enumerating
    let s := s.withArm .b { s.armB.withPresence 0 ⟨.present, 0, true, 0, true⟩ with line := .free }
    (after (.assignSend .b) s).armB.line = .assign 0 [0x20, 0, 2, 0x78] false ∧
    (after (.assignEnd .b) (after (.assignSend .b) s)).presence .b 0 = ⟨.present, 0, true, 0, false⟩ := by decide +kernel

/-- 01 "A reader lost and back": B.00 and B.01 PRESENT, arm B RUNNING, B.00 answered in this rotation. -/
def reader (misses : Nat) (state : Presence) (counter : Fin 16) : State :=
  let s := running .b (tile .b 0 .pad 2 .present 0 true (tile .b 1 .reader 3 state misses false State.reset))
  s.withArm .b { s.armB with counter := counter, record := ⟨true, true, true⟩ }

theorem test_third_miss_loses_the_tile :
    let t := after (.replyWindowClose .b) (polled .b 1 (reader 2 .present 9))
    t.presence .b 1 = ⟨.absent, 3, false, 0, false⟩ ∧ alerts t = [.started .powerOn, .tileLost .b 1] ∧
    t.armB.phase = .running ∧ t.armB.counter = 10 := by decide +kernel
theorem test_absent_tile_is_polled_at_counter_0 :
    ((after (.pollSend .b) ((reader 3 .absent 0).withArm .b { (reader 3 .absent 0).armB with position := 1 })).armB.line =
      .poll ⟨1, false, false⟩ [0x10, 1, 0x4B]) ∧
    ¬ (reader 3 .absent 10).visited .b 1 := by
  refine ⟨by decide +kernel, ?_⟩
  unfold State.visited
  decide +kernel
theorem test_lift_brings_the_reader_back :
    let t := after (.pollAnswer .b (sent 0xD1 1 [17, 1])) (polled .b 1 (reader 3 .absent 0))
    (t.presence .b 1).state = .present ∧ (t.presence .b 1).toggle = true ∧
    t.armB.fifo = [⟨.b, 1, .lift ⟨17, .player 1⟩, 3⟩] ∧ alerts t = [.started .powerOn, .tileBack .b 1] := by
  decide +kernel
/-- 02 "The arm B cable pulled": the last PRESENT position of the rotation misses. -/
theorem test_silent_rotation_faults_the_arm :
    let s := queued ⟨.b, 1, .lift ⟨17, .neutral⟩, 3⟩ (reader 0 .present 4)
    let s := s.withArm .b { s.armB with record := ⟨true, true, false⟩ }
    let t := after (.replyWindowClose .b) (polled .b 1 s)
    t.armB.phase = .faulted ∧ t.armB.counter = 4 ∧ t.armB.fifo.length = 1 ∧
    alerts t = [.started .powerOn, .armFault .b] ∧ t.presence .b 1 = ⟨.unknown, 0, true, 0, false⟩ := by decide +kernel

/-- 02 "The arm B cable pulled": the entry that still waits is sent first, and the rotation ends behind its frame. -/
theorem test_rotation_ends_behind_the_effect_frame :
    let s := (reader 0 .present 4).withArm .b { (reader 0 .present 4).armB with
      record := ⟨true, true, false⟩, effects := [⟨.all, .dark⟩] }
    let missed := after (.replyWindowClose .b) (polled .b 1 s)
    let sent := after (.effectFrameSend .b) missed
    missed.armB.phase = .running ∧ missed.armB.pass = .reaching ∧ sent.armB.line = .effect [0x50, 63, 0x35] true ∧
    (after (.effectFrameEnd .b) sent).armB.phase = .faulted ∧ (after (.effectFrameEnd .b) sent).armB.counter = 4 := by
  decide +kernel

/-- 02 "A busy pad at the high mark": the visit to A.05 with this many events in the FIFO and these effect entries. -/
def busyPad (count : Nat) (effects : List EffectEntry) (alternation : Alternation) (toggle : Bool) : State :=
  let s := running .a (tile .a 5 .pad 1 .present 0 toggle State.reset)
  s.withArm .a { s.armA with
    position := 5
    pass := .visiting true
    alternation := alternation
    effects := effects
    fifo := List.replicate count ⟨.a, 5, .press, 1⟩ }

theorem test_effect_goes_first :
    let s := busyPad 10 [⟨.tile 4, .light 1⟩, ⟨.tile 4, .light 2⟩] .poll true
    (after (.pollSend .a) s).armA = s.armA ∧
    (after (.effectFrameSend .a) s).armA.line = .effect [0x30, 4, 1, 0x6F] true := by decide +kernel
theorem test_poll_after_effect :
    (after (.pollSend .a) (busyPad 10 [⟨.tile 4, .light 2⟩] .effect true)).armA.line =
      .poll ⟨5, false, true⟩ [0x11, 5, 0x4E] := by decide +kernel
theorem test_high_mark_holds_the_poll :
    (after (.pollSend .a) (busyPad 12 [] .poll true)).armA = (busyPad 12 [] .poll true).armA := by decide +kernel
theorem test_press_is_accepted :
    let t := after (.pollAnswer .a (sent 0xA4 5 [])) (polled .a 5 (busyPad 10 [] .poll true))
    t.armA.fifo.length = 11 ∧ t.presence .a 5 = ⟨.present, 0, false, 1, false⟩ ∧ t.armA.pass = .visiting true := by
  decide +kernel
/-- R30: the same toggle again is a duplicate. -/
theorem test_duplicate_is_dropped :
    let t := after (.pollAnswer .a (sent 0xA0 5 [])) (polled .a 5 (busyPad 10 [] .poll false))
    t.armA.fifo.length = 10 ∧ t.armA.pass ≠ .visiting true := by decide +kernel
/-- 12 "A lost answer and a late answer", step 4. -/
theorem test_stray_frame :
    let t := after (.strayFrame .a (sent 0xB1 5 [])) (busyPad 1 [] .poll false)
    t.armA.stray = 1 ∧ t.armA.fifo.length = 1 ∧ t.presence .a 5 = ⟨.present, 0, false, 0, false⟩ := by decide +kernel
theorem test_effect_frame_end :
    let s := after (.effectFrameSend .a) (busyPad 10 [⟨.all, .dark⟩, ⟨.zone 3, .sound 4⟩] .poll true)
    s.armA.line = .effect [0x50, 63, 0x35] true ∧
    (after (.effectFrameEnd .a) s).armA.effects = [⟨.zone 3, .sound 4⟩] := by decide +kernel
/-- 03 "GAME-RESET during play": the frame on the line goes on, its entry gone. -/
theorem test_game_reset_during_an_effect_frame :
    let s := after (.effectFrameSend .a) (busyPad 3 [⟨.all, .dark⟩, ⟨.zone 3, .sound 4⟩] .poll true)
    let t := after (.gameReset []) (asked 0x1B [] s)
    t.armA.effects = [] ∧ t.armA.fifo = [] ∧ t.armA.line = .effect [0x50, 63, 0x35] false := by decide +kernel
/-- R42, R27: an arm that waits between rotations. -/
theorem test_waits_end :
    let s := busyPad 0 [] .poll true
    let wait (doze : Bool) := s.withArm .a { s.armA with pass := .between, doze := doze }
    (after (.dozeWaitEnd .a) (wait true)).armA.pass = .visiting false ∧
    (after (.emptyRotationWaitEnd .a) (wait false)).armA.pass = .visiting false ∧
    (after (.emptyRotationWaitEnd .a) (wait true)).armA.pass = .between := by decide +kernel
/-- R43: an accepted event wakes both arms. -/
theorem test_event_ends_doze :
    let s := polled .a 5 (after (.doze [1]) (busyPad 0 [] .poll true))
    let t := after (.pollAnswer .a (sent 0xA0 5 [])) s
    s.armB.doze = true ∧ t.armA.doze = false ∧ t.armB.doze = false ∧ alerts t = [.started .powerOn, .wake] := by
  decide +kernel
/-- 01 "Retyping a position during play", whether or not a frame is on the pair. -/
theorem test_tile_write_retypes :
    let s := running .b (tile .b 2 .pad 2 .mismatch 0 true State.reset)
    (∀ onPair, let t := s.tileWritten onPair 34 ⟨false, .reader, 4, false⟩
      t.presence .b 2 = ⟨.unknown, 0, true, 0, false⟩ ∧ t.mapRec .b 2 = ⟨false, .reader, 4, false⟩ ∧
      alerts t = [.started .powerOn]) ∧
    answer (after (.tileWrite [34, 0, 2, 4, 0]) (asked 0x09 [34, 0, 2, 4, 0] s)) = some (.ok, []) := by decide +kernel
/-- R7: the answer of a poll that a TILE-WRITE ended is discarded. -/
theorem test_tile_write_ends_the_poll :
    let s := polled .b 2 (running .b (tile .b 2 .pad 2 .present 0 true State.reset))
    ∀ onPair, let t := s.tileWritten onPair 34 ⟨true, .pad, 2, false⟩
      t.armB.line = .lapsed ∧ (after (.pollAnswer .b (sent 0xA0 2 [])) t).armB.fifo = [] := by decide +kernel
/-- R27, R28: a TILE-WRITE that ends the visit to position 31 ends the rotation, with its fault test, or with a frame on the
pair lets it end at that frame's end. -/
theorem test_tile_write_ends_the_rotation :
    let s (silent : Bool) := polled .b 31 ((running .b (tile .b 31 .pad 2 .present 0 true State.reset)).withArm .b
      { (running .b (tile .b 31 .pad 2 .present 0 true State.reset)).armB with record := ⟨true, silent, false⟩ })
    let t (silent onPair : Bool) := (s silent).tileWritten onPair 63 ⟨false, .reader, 2, false⟩
    (t false false).armB.counter = 2 ∧ (t true false).armB.phase = .faulted ∧
    (t true true).armB.phase = .running ∧ (after (.pollAnswer .b (sent 0xA0 31 [])) (t true true)).armB.phase = .faulted ∧
    alerts (t true false) = [.started .powerOn, .armFault .b] := by decide +kernel
theorem test_tile_read :
    answer (after (.tileRead [10]) (tile .a 10 .pad 2 .present 0 true State.reset)) =
      some (.ok, [10, 0, 1, 2, 0, 1, 0]) := by decide +kernel
theorem test_arm_status :
    answer (after (.armStatus [0]) (busyPad 3 [⟨.all, .dark⟩] .poll true)) =
      some (.ok, [0, 2, 1, 0, 0, 0, 0, 0, 3, 1]) := by decide +kernel
theorem test_arm_start :
    answer (after (.armStart [1]) State.reset) = some (.ok, [1, 1]) ∧
    (after (.armStart [1]) State.reset).armB.phase = .enumerating := by decide +kernel
theorem test_arm_start_busy : answer (after (.armStart [0]) (busyPad 0 [] .poll true)) = some (.busy, []) := by
  decide +kernel
theorem test_arm_stop :
    let t := after (.armStop [0]) (busyPad 3 [⟨.all, .dark⟩] .poll true)
    t.armA.phase = .off ∧ t.armA.fifo = [] ∧ t.armA.effects = [] ∧ t.presence .a 5 = ⟨.unknown, 0, true, 0, false⟩ := by
  decide +kernel
/-- 03 "Effects of one placement", step 4: a MISMATCH position receives nothing. -/
theorem test_effect_for_a_mismatch_is_skipped :
    answer (after (.effectSend [1, 1, 2, 1, 2]) (asked 0x17 [1, 1, 2, 1, 2]
      (running .b (tile .b 2 .pad 2 .mismatch 0 true State.reset)))) = some (.ok, [1]) := by decide +kernel

/-! ### Notices and uplink (09, 10, 11) -/

/-- 09 "An alert burst while the host holds", all thirteen alerts. -/
theorem test_alert_burst :
    ([.tileLost .a 4, .ruleFault 70 2 .questUndefined, .tileBack .a 4, .tileLost .a 4, .ruleFault 70 1 .notStartable,
      .uplinkGarbled, .uplinkGarbled, .tileMismatch .b 2, .armFault .b, .ruleLost 12, .wake, .tileLost .a 9,
      .wake] : List Alert).foldl raiseAlert [] =
    [⟨.tileLost .a 4, 2⟩, ⟨.ruleFault 70 2 .questUndefined, 2⟩, ⟨.tileBack .a 4, 1⟩, ⟨.uplinkGarbled, 2⟩,
     ⟨.tileMismatch .b 2, 1⟩, ⟨.armFault .b, 1⟩, ⟨.ruleLost 12, 1⟩, ⟨.wake, 2⟩] := by decide

/-- The reset state with the uplink port at other values. -/
def port (f : Uplink → Uplink) : State := State.reset.withUplink (f State.reset.uplink)

/-- 11: the escaped check byte 0xF1 of the TILE-READ frame ends it. -/
theorem test_frame_ends :
    let t := after (.uplinkByteReceived 0xB1 true) (port fun u => { u with rx := .frame, escape := true, part := [2, 3, 10] })
    t.uplink.frames = [[2, 3, 10, 0xF1]] ∧ t.uplink.rx = .idle ∧ t.uplink.part = [] := by decide +kernel
/-- 10 "A corrupted request": the sum is no multiple of 256. -/
theorem test_corrupted_frame :
    let t := after (.uplinkByteReceived 0xEB true) (port fun u => { u with rx := .frame, part := [2, 0x11, 3] })
    t.uplink.frames = [] ∧ t.uplink.bufferCount = 0 ∧ t.uplink.rx = .idle ∧
    alerts t = [.started .powerOn, .uplinkGarbled] := by decide +kernel
theorem test_hold_inside_a_frame :
    let t := after (.holdReceived true) (port fun u => { u with rx := .frame, part := [2, 0x11] })
    t.uplink.hostHeld = true ∧ t.uplink.part = [2, 0x11] ∧ t.uplink.rx = .frame := by decide +kernel
/-- 10 "The receive buffer fills": F13 completes at 384 bytes. -/
theorem test_hold_at_384 :
    let t := after (.uplinkByteReceived 0xE2 true) (port fun u => { u with
      rx := .frame, part := 30 :: List.replicate 30 0, frames := List.replicate 11 (List.replicate 32 0), flowOwed := [] })
    t.uplink.bufferCount = 384 ∧ t.uplink.receiveHeld = true ∧ t.uplink.flowOwed = [.hold] := by decide +kernel
/-- 10 "The receive buffer drains": the take of F10 brings the count to 128. -/
theorem test_go_at_128 :
    let t := after .requestTake (port fun u => { u with
      frames := List.replicate 5 (frameContent 0x0A (List.replicate 29 0)), receiveHeld := true, flowOwed := [] })
    t.uplink.bufferCount = 128 ∧ t.uplink.receiveHeld = false ∧ t.uplink.flowOwed = [.go] ∧
    t.handler = .pending 0x0A (List.replicate 29 0) := by decide +kernel
theorem test_unknown_kind :
    (after .requestTake (port fun u => { u with frames := [frameContent 0x23 [1]] })).handler =
      .reply ⟨0x23, .unknown, [0x23]⟩ ∧ replyLine ⟨0x23, .unknown, [0x23]⟩ = [0xC5, 2, 0xA0, 0x23, 0x3B] := by
  decide +kernel
theorem test_partial_frame_timeout :
    alerts (after .partialFrameTimeout (port fun u => { u with rx := .frame, part := [2] })) =
      [.started .powerOn, .uplinkGarbled] := by decide +kernel
theorem test_discard_quiet :
    alerts (after .discardQuiet (port fun u => { u with rx := .discard })) = [.started .powerOn] := by decide +kernel

/-- 09 "A reply, quest notices and echoes" at choice 2. -/
def choices : State :=
  ((port fun u => { u with flowOwed := [] }).withNotices
    ⟨[⟨.tileBack .a 4, 1⟩], [.turn 1], [⟨.injected 9, 0⟩, ⟨.injected 8, 1⟩]⟩).withHandler (.reply (Reply.done 0x06 []))

theorem test_reply_goes_first :
    (after .transmitFrameStart choices).uplink.tx = some ⟨.reply, [0xC5, 1, 0x26, 0xD9]⟩ := by decide +kernel
theorem test_alert_leaves_at_its_start :
    let t := after .transmitFrameStart (choices.withHandler .idle)
    t.uplink.tx = some ⟨.alert, [0xC5, 5, 0xE0, 3, 1, 0, 4, 0x13]⟩ ∧ t.notices.alerts = [] := by decide +kernel
theorem test_quest_notice_leaves_at_its_end :
    let s := after .transmitFrameStart ((choices.withHandler .idle).withNotices { choices.notices with alerts := [] })
    s.notices.quests = [.turn 1] ∧ (after .transmitFrameEnd s).notices.quests = [] := by decide +kernel
/-- R173: the first byte after a reset is one GO byte, STARTED follows (R158). -/
theorem test_go_after_reset :
    (after .flowByteSend State.reset).uplink.lastFlow = some .go ∧
    (after .transmitFrameStart State.reset).uplink.tx = some ⟨.alert, [0xC5, 4, 0xE0, 1, 1, 0, 0x1A]⟩ := by decide +kernel
/-- R171: GO lets the held reply go. -/
theorem test_go_starts_the_reply :
    ((after (.goReceived true) (choices.withUplink { choices.uplink with hostHeld := true })).uplink.tx.map (·.source)) =
      some .reply := by decide +kernel
theorem test_identify :
    answer (after (.identify []) State.reset) =
      some (.ok, [0x04, 0x12, 1, 2, 32, 1, 0, 16, 16, 32, 8, 32, 24, 2, 0]) := by decide +kernel

/-! ### Resets (R140, R158, R173) -/

theorem test_power_on :
    (after .powerOn (busyPad 3 [] .poll true)).armA = Arm.powerOn ∧
    alerts (after .powerOn (busyPad 3 [] .poll true)) = [.started .powerOn] := by decide +kernel
theorem test_reset_line_then_release :
    (after .resetLine changing).rstnLow = true ∧ alerts (after .resetLine changing) = [] ∧
    alerts (after .rstnRelease (after .resetLine changing)) = [.started .resetLine] ∧
    (after .rstnRelease (after .resetLine changing)).uplink.flowOwed = [.go] := by decide +kernel

/-! ### The statements' hypotheses can be met

`witness_<Name>` shows values that meet the hypotheses of Obligations.<Name>, each clause's in turn. -/

theorem serving_asked (s : State) (kind : Byte) (body : List Byte) (h : s.rstnLow = false)
    (idle : s.engine.inFlight = none) : (asked kind body s).serving kind body := ⟨h, idle, .inl rfl⟩
theorem handlerIdle_reset : State.reset.handlerIdle := ⟨rfl, rfl, rfl⟩

/-- The reset state with commands waiting. -/
def waiting (cs : List Instr) : State := State.reset.withPending cs

theorem witness_StepRunsTheFrontCommand :
    (waiting [.questTick, .powerOn]).pending = .questTick :: [.powerOn] ∧ State.reset.pending = [] := ⟨rfl, rfl⟩
theorem witness_RstnLowHoldsThePart :
    (after .resetLine State.reset).rstnLow = true ∧ Instr.waitsForRstn .questTick = true := ⟨rfl, rfl⟩
theorem witness_ResetsGivePowerOnValues :
    (after .resetLine State.reset).rstnLow = true ∧ State.reset.rstnLow = false := ⟨rfl, rfl⟩
theorem witness_SetupAndRuleMemoryStayInRange :
    let s := waiting [.setup [6, 16, 1, 1]]
    s.setupSound ∧ s.memorySound ∧ ∃ t, step s = .next t := by
  refine ⟨?_, ?_, _, rfl⟩
  · exact ⟨by decide, by decide, by decide, by decide, by decide⟩
  · exact ⟨by decide, by decide, fun _ h => nomatch h⟩
theorem witness_AlertQueueStaysDistinct :
    let s := waiting [.uplinkByteReceived 0 true]
    s.alertsSound ∧ ∃ t, step s = .next t := by
  refine ⟨⟨by decide, by decide, ?_⟩, _, rfl⟩
  intro e h
  have : e = ⟨.started .powerOn, 1⟩ := by simpa [waiting, State.withPending, State.reset, State.started] using h
  subst this; decide
theorem witness_NoQueueEverOverflows :
    let s := waiting [.effectSend [0, 3, 0, 3]]
    s.queuesSound ∧ ∃ t, step s = .next t := by
  refine ⟨⟨fun i => ?_, by decide, by decide, by decide, by decide⟩, _, rfl⟩
  cases i <;> exact ⟨by decide, by decide, by decide, fun _ => ⟨rfl, rfl⟩⟩
theorem witness_QuestsStayLegal :
    let s := waiting [.questTick]
    s.questsSound ∧ ∃ t, step s = .next t := by
  refine ⟨⟨fun q => ?_, ?_, ?_, ?_⟩, _, rfl⟩
  · simp [waiting, State.withPending, State.quest, State.reset, State.started, State.blank, Engine.powerOn, Quest.sound,
      Quest.powerOn, QuestDef.powerOn, Quest.reasonFits]
  · simp [waiting, State.withPending, State.reset, State.started, State.blank]
  · simp [waiting, State.withPending, State.reset, State.started, State.blank, Engine.powerOn]
  · simp [waiting, State.withPending, State.reset, State.started, State.blank, Engine.powerOn]
theorem witness_PresenceFollowsTheMap :
    let s := waiting [.pollSend .a]
    s.presenceSound ∧ ∃ t, step s = .next t := by
  refine ⟨fun i p => ?_, _, rfl⟩
  cases i <;> simp [waiting, State.withPending, PresenceRec.soundFor, State.presence, State.arm, State.reset, State.started,
    State.blank, Arm.powerOn, PresenceRec.fresh, State.mapRec, TileRec.powerOn]
theorem witness_TransmissionsShowTheHeadOfTheirQueue :
    let s := waiting [.transmitFrameStart]
    s.transmissionSound ∧ (∀ i, (s.arm i).effectSound) ∧ ∃ t, step s = .next t := by
  refine ⟨?_, fun i => ?_, _, rfl⟩
  · simp [waiting, State.withPending, State.transmissionSound, State.reset, State.started, State.blank, Uplink.powerOn]
  · cases i <;> simp [waiting, State.withPending, Arm.effectSound, State.reset, State.started, State.blank, State.arm,
      Arm.powerOn]
theorem witness_ArmCommandsStayOnTheirArm :
    Instr.armOf (.dozeWaitEnd .a) = some .a ∧ ∃ t, exec (.dozeWaitEnd .a) (busyPad 0 [] .poll true) = .next t :=
  ⟨rfl, _, rfl⟩
theorem witness_StoredRecordsStand :
    readOutcome bridge.memory.entries[10] = .clean ∧ bridge.memory.writeBack = none ∧
    (∃ t, exec .scrubSlot bridge = .next t) ∧ byteAt lanternsBody 0 ≠ byteOf (3 : Fin 16).val ∧
    ∀ x ∈ (bridge.withMeanwhile [[⟨.echo, .bitUpset 11 0⟩]]).asides, ∀ p, x.command ≠ .bitUpset 10 p := by
  refine ⟨by decide +kernel, by decide +kernel, ⟨_, rfl⟩, by decide, ?_⟩
  intro x hx p
  have : x = ⟨.echo, .bitUpset 11 0⟩ := List.mem_singleton.mp hx
  subst this
  intro h; injection h with h; exact absurd h (by decide)
theorem witness_CodeCorrectsOneAndDetectsTwoChangedBits : (0 : Fin 233) ≠ 232 ∧ (231 : Fin 233) ≠ 232 := by decide
/-- The longest body, all of it escaped, and the buffer with room for exactly its frame. -/
theorem witness_UplinkFrameIsReceivedWhole :
    let body : List Byte := List.replicate 40 0xC5
    let s := (port fun u => { u with frames := [List.replicate 469 0] }).withPending (arriving (frameLine 0x1B body))
    body.length ≤ 40 ∧ s.rstnLow = false ∧ s.uplink.rx = .idle ∧ s.uplink.bufferCount + (body.length + 3) ≤ 512 ∧
    s.pending = arriving (frameLine 0x1B body) ++ [] := by
  exact ⟨by decide, rfl, rfl, by decide +kernel, (List.append_nil _).symm⟩
theorem witness_BytesOutsideAFrame :
    State.reset.rstnLow = false ∧ notFlowByte 0xC5 true = true ∧ notFlowByte 0xC5 false = true ∧
    notFlowByte 0xF1 false = true ∧ State.reset.uplink.rx = .idle ∧
    (port fun u => { u with rx := .discard }).uplink.rx = .discard ∧
    (port fun u => { u with rx := .frame }).uplink.rx = .frame := by decide +kernel
theorem witness_BytesInsideAFrameAreStoredOrGarbleIt :
    let s := port fun u => { u with rx := .frame, escape := true, part := [2] }
    let full := port fun u => { u with rx := .frame, part := [41], frames := [List.replicate 511 0] }
    s.rstnLow = false ∧ s.uplink.rx = .frame ∧ s.uplink.escape = true ∧ needsEscape 0xEF = false ∧
    full.uplink.escape = false ∧ needsEscape 0 = false ∧ 512 ≤ full.uplink.bufferCount := by decide +kernel
/-- A length of 0 and of 42, an escaped one; the last byte of the shortest frame, with a wrong and with a right sum, and of
the longest; a byte behind which the frame goes on. -/
theorem witness_BytesInsideAFrameAreStoredOrGarbleIt_lengths_and_sums :
    let s (escape : Bool) (part : List Byte) := port fun u => { u with rx := .frame, escape := escape, part := part }
    (s false []).uplink.bufferCount < 512 ∧ (s false []).uplink.part ++ [(42 : Byte)] = 42 :: [] ∧
    (0 : Byte).toNat = 0 ∧ 41 < (42 : Byte).toNat ∧
    needsEscape 42 = false ∧ (s true []).uplink.escape = true ∧ 0xC5 = (0x85 : Byte) ^^^ 0x40 ∧ 41 < (0xC5 : Byte).toNat ∧
    (s false [1, 0]).uplink.part ++ [(0 : Byte)] = 1 :: [0, 0] ∧ ([0, 0] : List Byte).length = (1 : Byte).toNat + 1 ∧
    (([1, 0, 0] : List Byte).map BitVec.toNat).sum % 256 ≠ 0 ∧ (([1, 0, 255] : List Byte).map BitVec.toNat).sum % 256 = 0 ∧
    needsEscape 255 = false ∧ (List.replicate 42 (0 : Byte)).length = (41 : Byte).toNat + 1 ∧
    (s false [1]).uplink.part ++ [(0 : Byte)] = 1 :: [0] ∧ ([0] : List Byte).length < (1 : Byte).toNat + 1 := by
  decide +kernel
/-- R170's two levels at their edges: the 384th byte sets a clear mark, the 383rd does not; a fall to 128 clears a set one,
a fall to 129 does not. -/
theorem witness_BytesInsideAFrameAreStoredOrGarbleIt_marks :
    let s (count : Nat) (held : Bool) := port fun u =>
      { u with rx := .frame, frames := [List.replicate count 0], receiveHeld := held, flowOwed := [] }
    marksAfterRise ((s 383 false).uplink.bufferCount + 1) (s 383 false).uplink.marks = (true, [.hold]) ∧
    marksAfterRise ((s 382 false).uplink.bufferCount + 1) (s 382 false).uplink.marks = (false, []) ∧
    marksAfterRise ((s 383 true).uplink.bufferCount + 1) (s 383 true).uplink.marks = (true, []) ∧
    marksAfterFall ((s 128 true).uplink.frames.map List.length).sum (s 128 true).uplink.marks = (false, [.go]) ∧
    marksAfterFall ((s 129 true).uplink.frames.map List.length).sum (s 129 true).uplink.marks = (true, []) ∧
    marksAfterFall ((s 128 false).uplink.frames.map List.length).sum (s 128 false).uplink.marks = (false, []) := by
  decide +kernel
theorem witness_FlowBytesBothWays :
    State.reset.rstnLow = false ∧ State.reset.uplink.hostHeld = false ∧ State.reset.uplink.flowOwed = .go :: [] ∧
    (port fun u => { u with hostHeld := true }).uplink.hostHeld = true ∧
    (port fun u => { u with hostHeld := true }).uplink.tx = none ∧
    (port fun u => { u with hostHeld := true, tx := some ⟨.alert, [0xC5]⟩ }).uplink.tx ≠ none := by decide +kernel
theorem witness_TransmitterRanksItsSourcesAndBuildsTheirFrames :
    choices.rstnLow = false ∧ choices.uplink.tx = none ∧ choices.uplink.hostHeld = false ∧
    choices.handler = .reply (Reply.done 0x06 []) ∧ (∀ r, (choices.withHandler .idle).handler ≠ .reply r) ∧
    choices.notices.alerts = ⟨.tileBack .a 4, 1⟩ :: [] ∧ choices.notices.quests = .turn 1 :: [] ∧
    choices.notices.events = ⟨.injected 9, 0⟩ :: [⟨.injected 8, 1⟩] := by
  exact ⟨rfl, rfl, rfl, rfl, (by intro r h; cases h), rfl, rfl, rfl⟩
/-- The largest request kind with the largest status of R182's range and the UNKNOWN reply; a piece of each kind of seat. -/
theorem witness_TransmitterRanksItsSourcesAndBuildsTheirFrames_kinds :
    (0x1B : Byte).toNat ≤ 0x1B ∧ (Status.full, 4) ∈ [(Status.ok, 1), (.busy, 2), (.invalid, 3), (.full, 4), (.unknown, 5)] ∧
    (0x9B : Byte).toNat = 32 * 4 + (0x1B : Byte).toNat ∧ (0xA0 : Byte).toNat = 32 * 5 + 0 ∧
    (⟨63, .neutral⟩ : Piece).seat = .neutral ∧ (⟨0, .player 5⟩ : Piece).seat = .player 5 ∧
    (⟨.b, 31, .lift ⟨63, .neutral⟩, 15⟩ : EventRecord).event = .lift ⟨63, .neutral⟩ := by decide
/-- The UNKNOWN reply that REQUEST_TAKE makes for a kind above 0x1B. -/
theorem witness_TransmitterRanksItsSourcesAndBuildsTheirFrames_unknown :
    let r : Reply := ⟨0xFF, .unknown, [0xFF]⟩
    (r.status ≠ .unknown → r.kind.toNat ≤ 0x1B) ∧ 0x1B < r.kind.toNat ∧
    (r.status, 5) ∈ [(Status.ok, 1), (.busy, 2), (.invalid, 3), (.full, 4), (.unknown, 5)] ∧
    (0xA0 : Byte).toNat = 32 * 5 + (if r.status = .unknown then 0 else r.kind.toNat) := by decide
theorem witness_TransmitterRanksItsSourcesAndBuildsTheirFrames_quieter :
    let s (n : Notices) := (choices.withHandler .idle).withNotices n
    (s ⟨[], [.turn 1], []⟩).notices.quests = .turn 1 :: [] ∧ (s ⟨[], [], [⟨.injected 9, 0⟩]⟩).notices.quests = [] ∧
    (s ⟨[], [], []⟩).notices.events = [] ∧ (port fun u => { u with hostHeld := true }).uplink.hostHeld = true :=
  ⟨rfl, rfl, rfl, rfl⟩
theorem witness_FrameEndReleasesItsSource :
    let s (source : TxSource) := choices.withUplink { choices.uplink with tx := some ⟨source, [0xC5]⟩ }
    (s .reply).rstnLow = false ∧ (s .reply).uplink.tx = some ⟨.reply, [0xC5]⟩ ∧
    (s .alert).uplink.tx = some ⟨.alert, [0xC5]⟩ ∧
    (s (.quest true)).uplink.tx = some ⟨.quest true, [0xC5]⟩ ∧ (s (.quest true)).notices.quests = .turn 1 :: [] ∧
    (s (.event true)).notices.events = ⟨.injected 9, 0⟩ :: [⟨.injected 8, 1⟩] ∧
    (s (.event false)).uplink.tx = some ⟨.event false, [0xC5]⟩ ∧ choices.uplink.tx = none :=
  ⟨rfl, rfl, rfl, rfl, rfl, rfl, rfl, rfl⟩
theorem witness_RequestTakeDecodesTheKind :
    let s (kind : Byte) (body : List Byte) := port fun u => { u with frames := frameContent kind body :: [] }
    (s 0x08 []).rstnLow = false ∧ (s 0x08 []).handler = .idle ∧ (List.replicate 40 (0 : Byte)).length ≤ 40 ∧
    (s 0x1B (List.replicate 40 0)).uplink.frames = frameContent 0x1B (List.replicate 40 0) :: [] ∧
    0x08 ≤ (0x08 : Byte).toNat ∧ (0x1B : Byte).toNat ≤ 0x1B ∧ 0x1B < (0x1C : Byte).toNat ∧
    (s 0x07 [2]).uplink.frames = frameContent 0x07 [2] :: [] := by decide +kernel
/-- The take of the oldest frame brings a held buffer to 128 bytes, and to 129. -/
theorem witness_RequestTakeDecodesTheKind_marks :
    let u (count : Nat) := { State.reset.uplink with
      frames := frameContent 0x08 [] :: [List.replicate count (0 : Byte)], receiveHeld := true, flowOwed := [] }
    let rest (count : Nat) := [List.replicate count (0 : Byte)]
    Uplink.becomes { u 128 with frames := rest 128 }
      { u 128 with frames := rest 128, receiveHeld := false, flowOwed := [.go] }
      (marksAfterFall (((rest 128).map List.length).sum + (u 128).part.length) (u 128).marks) ∧
    Uplink.becomes { u 129 with frames := rest 129 } { u 129 with frames := rest 129 }
      (marksAfterFall (((rest 129).map List.length).sum + (u 129).part.length) (u 129).marks) := by
  unfold Uplink.becomes; decide +kernel
theorem witness_ReportsOfTheDirectRequests :
    State.reset.handlerIdle ∧ (∃ i, [1] = [armCode i]) ∧ (¬ ∃ i, [2] = [armCode i]) ∧
    (∃ i p, [63] = [byteOf (tileIndex i p).val]) ∧ ¬ ∃ k : Fin 64, [64] = [byteOf k.val] := by
  refine ⟨handlerIdle_reset, ⟨.b, rfl⟩, ?_, ⟨.b, 31, rfl⟩, by decide⟩
  rintro ⟨i, h⟩; cases i <;> simp [armCode] at h
theorem witness_ArmStartAndArmStopMoveTheArm :
    State.reset.handlerIdle ∧ (State.reset.arm .a).phase = .off ∧ (running .b State.reset).handlerIdle ∧
    ((running .b State.reset).arm .b).phase = .running ∧ [1] = [armCode .b] :=
  ⟨handlerIdle_reset, rfl, ⟨rfl, rfl, rfl⟩, rfl, rfl⟩
theorem witness_DozeSetsBothFlags :
    let s := (running .a State.reset).withArm .a { (running .a State.reset).armA with doze := true, pass := .between }
    s.handlerIdle ∧ (s.arm .a).doze = true ∧ (s.arm .a).pass = .between ∧ (s.arm .b).doze = false ∧
    ([2] : List Byte) ≠ [0] ∧ ([2] : List Byte) ≠ [1] := by
  exact ⟨⟨rfl, rfl, rfl⟩, rfl, rfl, rfl, by decide, by decide⟩
theorem witness_DiagCaptureReportsAndClears : State.reset.handlerIdle ∧ ([0] : List Byte) ≠ [] :=
  ⟨handlerIdle_reset, by decide⟩
theorem witness_SetupStoresItsFourValues :
    (asked 0x08 [6, 16, 1, 0] State.reset).serving 0x08 [6, 16, 1, 0] ∧
    [6, 16, 1, 0] = [byteOf 6, byteOf 16, yesNoCode true, yesNoCode false] ∧
    ¬ ∃ (n m : Nat) (u c : Bool), 1 ≤ n ∧ n ≤ 6 ∧ 1 ≤ m ∧ m ≤ 16 ∧
      [7, 1, 0, 0] = [byteOf n, byteOf m, yesNoCode u, yesNoCode c] := by
  refine ⟨serving_asked _ _ _ rfl rfl, by decide, ?_⟩
  rintro ⟨n, m, u, c, _, h, _, _, e⟩
  have e : (7 : Byte) = byteOf n := (List.cons.inj e).1
  have := congrArg BitVec.toNat e
  simp [byteOf] at this
  omega
theorem witness_TileWriteMovesOnePosition :
    let s := polled .b 2 (running .b (tile .b 2 .pad 2 .present 0 true State.reset))
    let new : TileRec := ⟨false, .reader, 15, true⟩
    (asked 0x09 [34, 0, 2, 15, 1] s).serving 0x09 [34, 0, 2, 15, 1] ∧
    [34, 0, 2, 15, 1] = [byteOf (tileIndex .b 2).val, yesNoCode new.excluded, tileKindCode new.kind, byteOf new.zone.val,
      yesNoCode new.echo] ∧
    (s.arm .b).line = .poll ⟨2, false, true⟩ [] ∧ new.kind ≠ (s.mapRec .b 2).kind ∧
    (s.arm .b).position = 2 ∧ (s.arm .b).pass = .visiting true ∧
    (∀ onPair, ((s.tileWritten onPair 34 new).presence .b 2).state = .unknown) ∧
    ((s.withArm .b { s.armB with line := .assign 2 [0x20, 2, 2, 0x7A] false }).arm .b).line =
      .assign 2 [0x20, 2, 2, 0x7A] false ∧
    ¬ ∃ (i : ArmId) (p : Fin 32) (new : TileRec), [64, 0, 1, 0, 0] =
      [byteOf (tileIndex i p).val, yesNoCode new.excluded, tileKindCode new.kind, byteOf new.zone.val,
       yesNoCode new.echo] := by
  refine ⟨serving_asked _ _ _ rfl rfl, by decide, by decide +kernel, by decide +kernel, by decide +kernel,
    by decide +kernel, by decide +kernel, rfl, ?_⟩
  rintro ⟨i, p, new, e⟩
  have e : (64 : Byte) = byteOf (tileIndex i p).val := (List.cons.inj e).1
  have h := (tileIndex i p).isLt
  have := congrArg BitVec.toNat e
  simp [byteOf] at this
  omega
theorem witness_RuleWriteStoresAFreshEntry :
    (asked 0x0A (byteOf (255 : Fin 256).val :: pieceRule) State.reset).serving 0x0A (byteOf (255 : Fin 256).val :: pieceRule) ∧
    pieceRule.length = 12 + 4 * ((byteAt pieceRule 1).toNat % 4 + 1) ∧ (decodeRule (packRecord pieceRule)).isSome = true ∧
    decodeRule (packRecord (0 :: pieceRule.tail)) = none ∧ (asked 0x0A [] State.reset).serving 0x0A [] :=
  ⟨serving_asked _ _ _ rfl rfl, by decide, by decide +kernel, by decide +kernel, serving_asked _ _ _ rfl rfl⟩
theorem witness_RecordsAreCheckedAndReadByTheirBytes : ∃ r, decodeRule (packRecord pieceRule) = some r :=
  Option.isSome_iff_exists.mp (by decide +kernel)
theorem witness_RuleReadReturnsTheRecordWritten :
    let s := asked 0x0A (byteOf (9 : Fin 256).val :: pieceRule) State.reset
    s.serving 0x0A (byteOf (9 : Fin 256).val :: pieceRule) ∧
    pieceRule.length = 12 + 4 * ((byteAt pieceRule 1).toNat % 4 + 1) ∧ decodeRule (packRecord pieceRule) ≠ none ∧
    ∃ t, exec (.ruleWrite (byteOf (9 : Fin 256).val :: pieceRule)) s = .next t :=
  ⟨serving_asked _ _ _ rfl rfl, by decide, by decide +kernel, _, rfl⟩
theorem witness_RuleReadGoesThroughTheCheck :
    (asked 0x0B [byteOf (40 : Fin 256).val] upset40).serving 0x0B [byteOf (40 : Fin 256).val] ∧
    readOutcome upset40.memory.entries[41] = .clean ∧ readOutcome upset40.memory.entries[40] = .oneChanged 36 ∧
    readOutcome (after (.bitUpset 40 232) upset40).memory.entries[40] = .twoChanged :=
  ⟨serving_asked _ _ _ rfl rfl, by decide +kernel, by decide +kernel, by decide +kernel⟩
theorem witness_RuleEnableAndDisableFollowTheTable :
    (asked 0x0C [byteOf (8 : Fin 256).val] changing).serving 0x0C [byteOf (8 : Fin 256).val] ∧
    changing.rule 8 = .disabled ∧ changing.rule 5 = .enabled ∧ changing.rule 6 = .empty ∧
    (changing.withRule 8 .quarantined).rule 8 = .quarantined ∧
    (asked 0x0D [] changing).serving 0x0D [] ∧ ([] : List Byte).length ≠ 1 :=
  ⟨serving_asked _ _ _ (by decide +kernel) (by decide +kernel), by decide +kernel, by decide +kernel, by decide +kernel,
    by decide +kernel, serving_asked _ _ _ (by decide +kernel) (by decide +kernel), by decide⟩
theorem witness_RawAccessMovesTheStoredBits :
    let body := byteOf (255 : Fin 256).val :: byteOf [(0 : Fin 233), 232].length ::
      (List.replicate 28 0xFF ++ [(0 : Fin 233), 232].map fun p => byteOf p.val)
    (asked 0x0F body State.reset).serving 0x0F body ∧ (List.replicate 28 (0xFF : Byte)).length = 28 ∧
    [(0 : Fin 233), 232].length ≤ 2 ∧ (asked 0x0E [255] State.reset).serving 0x0E [255] ∧
    [255] = [byteOf (255 : Fin 256).val] ∧
    ¬ ∃ (i : Fin 256) (data : List Byte) (flips : List (Fin 233)), data.length = 28 ∧ flips.length ≤ 2 ∧
      [0] = byteOf i.val :: byteOf flips.length :: (data ++ flips.map fun p => byteOf p.val) := by
  refine ⟨serving_asked _ _ _ rfl rfl, by decide, by decide, serving_asked _ _ _ rfl rfl, by decide, ?_⟩
  rintro ⟨i, data, flips, _, _, e⟩
  simp at e
theorem legal_lanternsBody : questWriteLegal lanternsBody := by
  refine ⟨by decide, by decide, by decide, by decide, by decide, by decide, by decide, by decide⟩
theorem witness_QuestWriteLoadsTheQuest :
    (asked 0x10 lanternsBody State.reset).serving 0x10 lanternsBody ∧ questWriteLegal lanternsBody ∧
    (2 : Fin 16).val = (byteAt lanternsBody 0).toNat ∧ (State.reset.quest 2).state ≠ .active ∧
    ((quest 2 .active 0 lanterns ⟨true, 9⟩ State.reset).quest 2).state = .active ∧
    ¬ questWriteLegal (16 :: lanternsBody.tail) := by
  refine ⟨serving_asked _ _ _ rfl rfl, legal_lanternsBody, by decide, by decide +kernel, by decide +kernel, ?_⟩
  intro h
  exact absurd h.2.1 (by decide)
theorem witness_QuestReadReturnsTheDefinitionWritten :
    let s := asked 0x10 lanternsBody State.reset
    s.serving 0x10 lanternsBody ∧ questWriteLegal lanternsBody ∧ (2 : Fin 16).val = (byteAt lanternsBody 0).toNat ∧
    (s.quest 2).state ≠ .active ∧ (2 : Fin 16) ∉ s.engine.expiry ∧ ∃ t, exec (.questWrite lanternsBody) s = .next t :=
  ⟨serving_asked _ _ _ rfl rfl, legal_lanternsBody, by decide, by decide +kernel, by decide +kernel, _, rfl⟩
theorem witness_QuestReadReportsTheRuntimePart :
    (asked 0x11 [15] State.reset).serving 0x11 [15] ∧ [15] = [byteOf (15 : Fin 16).val] ∧
    (State.reset.quest 15).reasonFits = true ∧ ¬ ∃ q : Fin 16, [16] = [byteOf q.val] :=
  ⟨serving_asked _ _ _ rfl rfl, by decide, by decide +kernel, by decide⟩
/-- Quests 0 to 3: IDLE, LOADED with prerequisite 0, ACTIVE, LOADED with a start timer and no prerequisite. -/
def four : State :=
  quest 1 .loaded 0 { QuestDef.powerOn with prerequisite := some 0 } ⟨false, 0⟩
    (quest 2 .active 0 lanterns ⟨true, 9⟩ (quest 3 .loaded 0 lanterns ⟨false, 0⟩ State.reset))
theorem witness_QuestStartAndAbortDecideInOrder :
    (asked 0x12 [byteOf (3 : Fin 16).val] four).serving 0x12 [byteOf (3 : Fin 16).val] ∧
    (asked 0x13 [byteOf (2 : Fin 16).val] four).serving 0x13 [byteOf (2 : Fin 16).val] ∧
    (four.quest 2).state = .active ∧ (four.quest 0).state = .idle ∧ (four.quest 1).state = .loaded ∧
    (four.quest 1).definition.prerequisite = some 0 ∧ (four.quest 0).state ≠ .complete ∧
    (four.quest 3).state = .loaded ∧ (four.quest 3).definition.prerequisite = none ∧
    (four.quest 3).definition.startTimer = some 500 ∧ ¬ ∃ q : Fin 16, [16] = [byteOf q.val] :=
  ⟨serving_asked _ _ _ rfl rfl, serving_asked _ _ _ rfl rfl, by decide +kernel, by decide +kernel, by decide +kernel,
    by decide +kernel, by decide +kernel, by decide +kernel, by decide +kernel, by decide +kernel, by decide⟩
theorem witness_ScoreAndTurnRequests :
    (asked 0x14 [5, 0x27, 0x0F] State.reset).serving 0x14 [5, 0x27, 0x0F] ∧
    [5, 0x27, 0x0F] = [byteOf (5 : Fin 6).val, byteOf (9999 / 256), byteOf 9999] ∧
    (asked 0x15 [] State.reset).serving 0x15 [] ∧ (asked 0x16 [0] State.reset).serving 0x16 [0] ∧
    (0 : Fin 6).val < State.reset.engine.seatCount ∧
    (¬ ∃ n : Fin 6, [1] = [byteOf n.val] ∧ n.val < State.reset.engine.seatCount) ∧
    ¬ ∃ (seat : Fin 6) (n : Nat), n ≤ 9999 ∧ [6, 0, 0] = [byteOf seat.val, byteOf (n / 256), byteOf n] := by
  refine ⟨serving_asked _ _ _ rfl rfl, by decide, serving_asked _ _ _ rfl rfl, serving_asked _ _ _ rfl rfl, by decide,
    by decide, ?_⟩
  rintro ⟨seat, n, _, e⟩
  have e : (6 : Byte) = byteOf seat.val := (List.cons.inj e).1
  have h := seat.isLt
  have := congrArg BitVec.toNat e
  simp [byteOf] at this
  omega
theorem witness_EffectSendDecidesInOrder :
    let s := running .b (tile .b 2 .pad 2 .present 0 true State.reset)
    let body : List Byte := [1, 1, 2, 1, 9]
    (asked 0x17 body s).serving 0x17 body ∧ effectSendOf .b ⟨.tile 2, .light 9⟩ body ∧ (s.arm .b).phase = .running ∧
    (s.presence .b 2).state = .present ∧ (s.presence .b 3).state ≠ .present ∧ (s.arm .a).phase = .off ∧
    (s.arm .b).effects.length < 32 ∧ 32 ≤ ((s.withArm .b { s.armB with
      effects := List.replicate 32 ⟨.all, .dark⟩ }).arm .b).effects.length ∧
    ¬ ∃ i e, effectSendOf i e [] := by
  refine ⟨serving_asked _ _ _ rfl rfl, ⟨1, 2, ⟨rfl, by decide⟩, by decide⟩, by decide +kernel, by decide +kernel,
    by decide +kernel, by decide +kernel, by decide +kernel, by decide +kernel, ?_⟩
  rintro ⟨i, e, m, v, _, h⟩
  exact nomatch h
theorem witness_InjectAndModeRequests :
    (asked 0x18 [255] State.reset).serving 0x18 [255] ∧ State.reset.engine.inject = none ∧
    (State.reset.withEngine { State.reset.engine with inject := some 5 }).engine.inject ≠ none ∧
    (asked 0x19 [] State.reset).serving 0x19 [] ∧ (asked 0x1A [0] State.reset).serving 0x1A [0] ∧ ([0] : List Byte) ≠ [] :=
  ⟨serving_asked _ _ _ rfl rfl, rfl, by decide, serving_asked _ _ _ rfl rfl, serving_asked _ _ _ rfl rfl, by decide⟩
theorem witness_GameResetKeepsBoardAndPack :
    let s := (four.withArm .a { four.armA with line := .effect [0x50, 63, 0x35] true }).withUplink
      { four.uplink with tx := some ⟨.quest true, [0xC5]⟩ }
    (asked 0x1B [] s).serving 0x1B [] ∧ (s.quest 0).state = .idle ∧ (s.quest 2).state ≠ .idle ∧
    (s.arm .a).line = .effect [0x50, 63, 0x35] true ∧ (∀ frame held, (s.arm .b).line ≠ .effect frame held) ∧
    s.uplink.tx = some ⟨.quest true, [0xC5]⟩ :=
  ⟨serving_asked _ _ _ rfl rfl, by decide +kernel, by decide +kernel, rfl, (by intro f b h; cases h), rfl⟩
theorem witness_ScrubberVisitsAndUpsets :
    upset40.rstnLow = false ∧ upset40.memory.writeBack = none ∧ upset40.engine.scrub = true ∧
    upset40.memory.scrubIndex = 40 ∧ (41 : Fin 256).val = ((40 : Fin 256).val + 1) % 256 ∧
    (0 : Fin 256).val = ((255 : Fin 256).val + 1) % 256 ∧ upset40.rule 40 ≠ .empty ∧ upset40.rule 40 ≠ .quarantined ∧
    readOutcome upset40.memory.entries[40] = .oneChanged 36 ∧
    readOutcome (after (.bitUpset 40 232) upset40).memory.entries[40] = .twoChanged ∧ upset40.rule 41 = .empty ∧
    (after .scrubSlot upset40).memory.writeBack ≠ none := by decide +kernel
theorem witness_TickLowersTheRunningTimers :
    let s := quest 4 .active 0 lanterns ⟨true, 1⟩ (quest 2 .active 0 lanterns ⟨true, 2⟩ State.reset)
    s.rstnLow = false ∧ s.engine.mode = .run ∧ s.timers[0].running = false ∧ s.timers[2].running = true ∧
    1 < s.timers[2].remaining.toNat ∧ s.timers[4] = ⟨true, 1⟩ ∧
    (s.withEngine { s.engine with mode := .hold }).engine.mode = .hold := by decide +kernel
theorem mayStart (s : State) (h : s.rstnLow = false ∧ s.engine.inFlight = none ∧ s.handler = .idle ∧ s.engine.mode = .run ∧
    s.notices.quests.length + 16 ≤ 32 ∧ s.notices.events.length + 1 ≤ 24 ∧ s.armA.effects.length + 16 ≤ 32 ∧
    s.armB.effects.length + 16 ≤ 32) : s.eventsMayStart := by
  obtain ⟨h1, h2, h3, h4, h5, h6, h7, h8⟩ := h
  refine ⟨h1, h2, ?_, h4, h5, h6, fun i _ => ?_⟩
  · intro k b e; rw [h3] at e; exact nomatch e
  · cases i
    · exact h7
    · exact h8
theorem witness_ArbiterTakesInOrder :
    let s := offered.withHandler .idle
    let fifos := s.withEngine { s.engine with expiry := [], inject := none }
    ¬ offered.eventsMayStart ∧ s.engine.expiry ≠ [] ∧ s.engine.inject ≠ none ∧ fifos.eventsMayStart ∧
    fifos.asides = [] ∧ fifos.engine.expiry = [] ∧ fifos.engine.inject = none ∧ (fifos.arm .a).fifo = ⟨.a, 1, .press, 0⟩ :: [] ∧
    ArmId.a ≠ fifos.engine.lastServed ∧ State.reset.armA.fifo = [] ∧ State.reset.armB.fifo = [] := by
  refine ⟨fun h => h.2.2.1 _ _ rfl, by decide +kernel, by decide +kernel, mayStart _ (by decide +kernel), by decide +kernel,
    by decide +kernel, by decide +kernel, by decide +kernel, by decide +kernel, rfl, rfl⟩
theorem witness_EventsWithNoEnabledRule :
    let s := queued ⟨.a, 1, .press, 0⟩ (quest 3 .active 0 lanterns ⟨false, 0⟩ (quest 4 .active 0 QuestDef.powerOn ⟨false, 0⟩ State.reset))
    let fail := s.withEngine { s.engine with expiry := [4, 3] }
    let event := s.withEngine { s.engine with expiry := [3, 4] }
    s.eventsMayStart ∧ (∀ i, s.rule i ≠ .enabled) ∧ s.asides = [] ∧ s.engine.expiry = [] ∧ s.engine.inject = none ∧
    (s.arm .a).fifo = ⟨.a, 1, .press, 0⟩ :: [] ∧ ArmId.a ≠ s.engine.lastServed ∧
    fail.eventsMayStart ∧ fail.engine.expiry = 4 :: [3] ∧ 4 ∉ [(3 : Fin 16)] ∧ (fail.quest 4).definition.onTimeout = .fail ∧
    event.engine.expiry = 3 :: [4] ∧ (event.quest 3).definition.onTimeout = .event :=
  ⟨mayStart _ (by decide +kernel), by decide +kernel, rfl, by decide +kernel, by decide +kernel, by decide +kernel,
    by decide +kernel, mayStart _ (by decide +kernel), rfl, by decide, by decide +kernel, rfl, by decide +kernel⟩
/-- Rule 3 does not match the injected code 5, rule 7 does. -/
def injected : State :=
  let s := rule 7 .enabled [7, 0x20, 0x40, 5, 0, 255, 255, 255, 0, 0, 0, 0, 24, 0, 0, 1]
    (rule 3 .enabled [7, 0, 0x40, 6, 0, 255, 255, 255, 0, 0, 0, 0, 24, 0, 0, 1] State.reset)
  s.withEngine { s.engine with inject := some 5 }
/-- Each of the three takes, and a state with an item in flight. -/
theorem witness_ScanFiresTheMatchingRulesInOrder :
    let c := countdown 3
    injected.eventsMayStart ∧ (∃ taken, injected.Takes .injectTake (.injected 5) taken) ∧
    changing.eventsMayStart ∧ (∃ taken, changing.Takes .tileEventTake (.tile ⟨.a, 3, .press, 2⟩) taken) ∧
    c.eventsMayStart ∧ (∃ taken, c.Takes .expiryTake (.timer 2) taken) ∧
    (injected.take (.event (.injected 5))).engine.inFlight ≠ none ∧
    (injected.take (.event (.injected 5))).rstnLow = false :=
  ⟨mayStart _ (by decide +kernel), ⟨_, .injected 5 rfl rfl⟩, mayStart _ (by decide +kernel),
    ⟨_, .tile .a ⟨.a, 3, .press, 2⟩ [] rfl rfl rfl (.inl (by decide +kernel))⟩, mayStart _ (by decide +kernel),
    ⟨_, .timer 2 [] rfl (by decide +kernel)⟩, by decide +kernel, rfl⟩
theorem witness_ActionsRunInOrderOnTheirHomeQuest :
    let zero : Flags := ⟨false, true, false, false, false⟩
    let failed := four.withQuest 2 { four.quest 2 with state := .failed }
    four = during [] (.action 9 1) four ∧ (⟨.turnNext, 0⟩ : Action).isHome = false ∧
    (∃ t, performAction four (.injected 5) none ⟨.turnNext, 0⟩ = .done t) ∧
    performAction four (.injected 5) none ⟨.questStart 0, 0⟩ = .fault .questUndefined ∧
    (⟨.questComplete, 1⟩ : Action).isHome = true ∧ (four.quest 0).state = .idle ∧ (four.quest 3).state = .loaded ∧
    (failed.quest 2).state = .failed ∧ (four.quest 2).state = .active ∧
    condHolds 1 (four.quest 2).flags = false ∧ (∀ c, (ActionKind.questComplete) ≠ .setIf c) ∧
    condHolds 1 ((four.withQuest 2 { four.quest 2 with flags := zero }).quest 2).flags = true :=
  ⟨rfl, by decide, ⟨_, rfl⟩, rfl, by decide, by decide +kernel, by decide +kernel, by decide +kernel, by decide +kernel,
    by decide +kernel, (by intro c h; cases h), by decide +kernel⟩
/-- Counter 0 of quest 2 has a clamp, counter 1 has none; the constant at both ends of its range, and counter 1 read. -/
theorem witness_CounterActionsCompareAndClamp :
    (four.quest 2).counters[0] = 3 ∧
    (∀ v : Half, CountOperand.constant (-32768) = .constant v → (-32768 : Half) = v) ∧
    (∀ j, CountOperand.constant (-32768) = .counter j → (-32768 : Half) = (four.quest 2).counters[j]) ∧
    ((four.quest 2).counters[1] = 0 ∧ ∀ j, CountOperand.counter 1 = .counter j → (0 : Half) = (four.quest 2).counters[j]) ∧
    ((four.quest 2).definition.counters[0]).clamp = some ⟨0, 3⟩ ∧ (0 : Half).toInt ≤ (3 : Half).toInt ∧
    ((four.quest 2).definition.counters[1]).clamp = none ∧
    (0 : Int) = (if condHolds 1 (four.quest 2).flags = true then 1 else 0) := by
  refine ⟨by decide +kernel, ?_, ?_, ⟨by decide +kernel, ?_⟩, by decide +kernel, by decide, by decide +kernel, by decide +kernel⟩
  · intro v h; cases h; rfl
  · intro j h; cases h
  · intro j h; cases h; decide +kernel
theorem witness_ScoreActionsAddAndSubtractWithinRange :
    let s := four.withEngine { four.engine with seatCount := 3, turn := 1 }
    let s := s.withQuest 5 { s.quest 5 with definition := { QuestDef.powerOn with owner := some 2 } }
    let ev := Event.tile ⟨.a, 1, .place ⟨40, .player 4⟩, 0⟩
    resolveSeat s .turn ev none = some 1 ∧ resolveSeat s .pieceOwner ev none = none ∧
    resolveSeat s .questOwner ev (some 5) = some 2 ∧ resolveSeat s (.seat 5) ev none = none ∧
    resolveSeat s (.seat 2) ev none = some 2 := by decide +kernel
theorem witness_TurnStageStartSignalAndRuleActions :
    let s := four.withQuest 2 { four.quest 2 with stage := 1 }
    let met := four.withQuest 0 { four.quest 0 with state := .complete }
    1 ≤ four.engine.seatCount ∧ four.engine.seatCount ≤ 6 ∧
    (four.quest 2).stage < (four.quest 2).definition.finalStage ∧ (1 : Fin 16).val = (four.quest 2).stage.val + 1 ∧
    (s.quest 2).definition.finalStage ≤ (s.quest 2).stage ∧ (four.quest 0).state = .idle ∧
    (four.quest 2).state = .active ∧ (met.quest 0).state = .complete ∧ (four.quest 1).state = .loaded ∧
    (four.quest 1).definition.prerequisite = some 0 ∧ (four.quest 0).state ≠ .complete ∧
    (met.quest 1).state = .loaded ∧ (∀ p, (met.quest 1).definition.prerequisite = some p → (met.quest p).state = .complete) ∧
    (four.quest 3).definition.startTimer = some 500 ∧ (four.quest 3).definition.prerequisite = none := by decide +kernel
theorem witness_EffectActionsReachTheirArms :
    let s := running .b (tile .b 31 .pad 2 .present 0 true State.reset)
    EffectTarget.tile (tileIndex .b 31) = .tile (tileIndex .b 31) ∧ (s.presence .b 31).state = .present ∧
    (s.arm .b).phase = .running ∧ (s.presence .b 30).state ≠ .present ∧ (s.arm .a).phase = .off ∧
    (∀ r, Event.injected 5 ≠ .tile r) ∧ EffectAddr.zone 15 = .zone 15 ∧ EffectTarget.zone 15 = .zone 15 :=
  ⟨rfl, by decide +kernel, by decide +kernel, by decide +kernel, by decide +kernel, (by intro r h; cases h), rfl, rfl⟩

/-! The arm statements: position 5 of arm A PRESENT at most. -/

/-- Arm A where a clause wants it: in this phase and pass, from this position, with this counter and these effects. -/
def passing (phase : ArmPhase) (pass : Pass) (position : Fin 32) (counter : Fin 16) (effects : List EffectEntry) : State :=
  (busyPad 0 [] .poll true).withArm .a { (busyPad 0 [] .poll true).armA with
    phase := phase, pass := pass, position := position, counter := counter, effects := effects }

theorem not_visited_of_excluded {s : State} {i : ArmId} {p : Fin 32} (h : (s.presence i p).state = .excluded) :
    ¬ s.visited i p := by
  simp [State.visited, h]

theorem visited_passing (phase : ArmPhase) (pass : Pass) (position : Fin 32) (counter : Fin 16) (effects : List EffectEntry)
    (p : Fin 32) (h : (passing phase pass position counter effects).visited .a p) : p = 5 := by
  have all : ∀ p : Fin 32, p ≠ 5 → ((busyPad 0 [] .poll true).presence .a p).state = .excluded := by decide +kernel
  by_contra hp
  exact not_visited_of_excluded (i := .a) (p := p) (s := passing phase pass position counter effects) (all p hp) h

theorem visited_five (pass : Pass) (position : Fin 32) (counter : Fin 16) (effects : List EffectEntry) :
    (passing .running pass position counter effects).visited .a 5 := .inr ⟨rfl, .inl (by
      show ((busyPad 0 [] .poll true).presence .a 5).state = .present
      decide +kernel)⟩

/-- No frame goes first, and one does; the first position that is visited is 5. -/
theorem witness_RotationReachesTheNextPosition :
    let s (pass : Pass) (effects : List EffectEntry) := passing .running pass 0 1 effects
    (s .reaching []).rstnLow = false ∧ ((s .reaching []).arm .a).line = .free ∧ ((s .reaching []).arm .a).active = true ∧
    ((s .reaching []).arm .a).position ≤ 5 ∧ (s .reaching []).visited .a 5 ∧
    (∀ q, q < 5 → ¬ (s .reaching []).visited .a q) ∧ ¬ (s .reaching []).frameGoesFirst .a ∧
    (s .reaching [⟨.all, .dark⟩]).frameGoesFirst .a ∧ (5 : Fin 32) ≠ ((s .reaching [⟨.all, .dark⟩]).arm .a).position ∧
    (s .between [⟨.all, .dark⟩]).visited .a 5 ∧ (∀ q, q < 5 → ¬ (s .between [⟨.all, .dark⟩]).visited .a q) ∧
    ((s .between []).arm .a).startMark = some ⟨false, false⟩ ∧ (s .between [⟨.all, .dark⟩]).frameGoesFirst .a := by
  intro s
  have first : ∀ pass, (s pass [⟨.all, .dark⟩]).frameGoesFirst .a := fun _ => .inr ⟨List.cons_ne_nil _ _, rfl⟩
  refine ⟨rfl, rfl, rfl, by decide, visited_five _ _ _ _, ?_, ?_, first _, by decide, visited_five _ _ _ _, ?_, rfl, first _⟩
  · intro q hq hv; exact absurd (visited_passing _ _ _ _ _ q hv) (Fin.ne_of_lt hq)
  · rintro (⟨p, hp⟩ | ⟨h, -⟩)
    · have all : ∀ p : Fin 32, ((busyPad 0 [] .poll true).presence .a p).assign = false := by decide +kernel
      exact absurd hp (by show ¬ ((busyPad 0 [] .poll true).presence .a p).assign = true; rw [all p]; decide)
    · exact h rfl
  · intro q hq hv; exact absurd (visited_passing _ _ _ _ _ q hv) (Fin.ne_of_lt hq)
/-- A rotation past its last position at counter 15, with its wait over and not; an enumeration past it. -/
theorem witness_RotationReachesTheNextPosition_ends :
    let s := passing .running .reaching 6 15 []
    let dozing := s.withArm .a { s.armA with doze := true }
    let pass := passing .enumerating .reaching 6 0 []
    (s.arm .a).phase = .running ∧ (s.arm .a).pass = .reaching ∧ (∀ q, (s.arm .a).position ≤ q → ¬ s.visited .a q) ∧
    (s.arm .a).record.completed = false ∧ (s.arm .a).startMark = some ⟨false, false⟩ ∧
    (0 : Fin 16).val = ((s.arm .a).counter.val + 1) % 16 ∧ (s.arm .a).rotationPolled = false ∧
    (dozing.arm .a).doze = true ∧ (s.withArm .a { s.arm .a with counter := 0 }).visited .a 5 ∧
    (pass.arm .a).phase = .enumerating ∧ (∀ q, (pass.arm .a).position ≤ q → ¬ pass.visited .a q) ∧
    (pass.presence .a 5).state = .present ∧ ((passing .off .reaching 0 0 []).arm .a).phase ≠ .running := by
  intro s dozing pass
  have above : ∀ q : Fin 32, 6 ≤ q → q ≠ 5 := by decide
  refine ⟨rfl, rfl, ?_, rfl, rfl, by decide, rfl, rfl, visited_five .reaching 6 0 [], rfl, ?_,
    (by show ((busyPad 0 [] .poll true).presence .a 5).state = .present; decide +kernel), by decide⟩
  · exact fun q hq hv => above q hq (visited_passing _ _ _ _ _ q hv)
  · exact fun q hq hv => above q hq (visited_passing _ _ _ _ _ q hv)
/-- Arm A with every position excluded, in this phase and pass. -/
def bare (phase : ArmPhase) (pass : Pass) : State :=
  (running .a State.reset).withArm .a { (running .a State.reset).armA with phase := phase, pass := pass }
/-- An arm with nothing to visit: between rotations with the wait not over and over, in a rotation that ends, in an
enumeration that ends; and with an effect frame to go first behind position 31. -/
theorem witness_RotationReachesTheNextPosition_nothing_to_visit :
    let s := bare .running .between
    let ready := s.withArm .a { s.armA with startMark := some ⟨false, true⟩ }
    let held := (bare .running .ended).withArm .a { (bare .running .ended).armA with effects := [⟨.all, .dark⟩] }
    s.pairFree .a ∧ (s.arm .a).phase = .running ∧ (s.arm .a).pass = .between ∧ (s.arm .a).doze = false ∧
    (s.arm .a).startMark ≠ none ∧ s.waitsToStart .a ∧ ¬ ready.waitsToStart .a ∧ ¬ s.frameGoesFirst .a ∧
    (∀ phase pass counter q, ¬ ((bare phase pass).inRotation .a counter).visited .a q) ∧
    (bare .running .reaching).nothingLeft .a ∧ ((bare .running .reaching).arm .a).record.completed = false ∧
    ((bare .enumerating .reaching).arm .a).phase = .enumerating ∧ (bare .enumerating .reaching).nothingLeft .a ∧
    (2 : Fin 16).val = ((1 : Fin 16).val + 1) % 16 ∧ held.nothingLeft .a ∧ held.frameGoesFirst .a ∧
    (held.arm .a).pass = .ended := by
  intro s ready held
  have excluded : ∀ q : Fin 32, ((running .a State.reset).presence .a q).state = .excluded := by decide +kernel
  have assign : ∀ q : Fin 32, ((running .a State.reset).presence .a q).assign = false := by decide +kernel
  have none' : ∀ phase pass counter q, ¬ ((bare phase pass).inRotation .a counter).visited .a q :=
    fun _ _ _ q => not_visited_of_excluded (excluded q)
  refine ⟨.inl rfl, rfl, rfl, rfl, by simp [s, bare, running, State.withArm, State.arm],
    ⟨_, rfl, .inr ⟨rfl, rfl, rfl⟩⟩, ?_, ?_, none', .inr ⟨rfl, fun q _ => not_visited_of_excluded (excluded q)⟩, rfl, rfl,
    .inr ⟨rfl, fun q _ => not_visited_of_excluded (excluded q)⟩, by decide, .inl rfl,
    .inr ⟨List.cons_ne_nil _ _, rfl⟩, rfl⟩
  · rintro ⟨m, hm, ⟨h, -⟩ | ⟨-, -, h⟩⟩
    · cases h
    · cases hm; cases h
  · rintro (⟨p, hp⟩ | ⟨h, -⟩)
    · exact absurd hp (by show ¬ ((running .a State.reset).presence .a p).assign = true; rw [assign p]; decide)
    · exact h rfl
/-- Without another frame, and with an effect frame that goes first; position 5 is the last that is visited. -/
theorem witness_SilentRotationFaultsTheArm :
    let s (effects : List EffectEntry) := (passing .running (.visiting true) 5 1 effects).withArm .a
      { (passing .running (.visiting true) 5 1 effects).armA with line := .poll ⟨5, false, true⟩ [] }
    (s []).rstnLow = false ∧ ((s []).arm .a).phase = .running ∧ ((s []).arm .a).line = .poll ⟨5, false, true⟩ [] ∧
    ((s []).arm .a).position = 5 ∧ ((s []).presence .a 5).state = .present ∧ ((s []).presence .a 5).misses ≤ 3 ∧
    ((s []).arm .a).record.presentAtStart = true ∧ ((s []).arm .a).record.answered = false ∧
    (∀ effects, ∀ q, 5 < q → ¬ (s effects).visited .a q) ∧
    ((s [⟨.all, .dark⟩]).arm .a).effects = ⟨.all, .dark⟩ :: [] ∧ ((s [⟨.all, .dark⟩]).arm .a).alternation = .poll ∧
    (∀ q, ((s [⟨.all, .dark⟩]).presence .a q).assign = false) ∧ ((s []).arm .a).effects = [] := by
  intro s
  have assign : ∀ q : Fin 32, ((busyPad 0 [] .poll true).presence .a q).assign = false := by decide +kernel
  refine ⟨rfl, rfl, rfl, rfl, ?_, ?_, rfl, rfl, ?_, rfl, rfl, fun q => assign q, rfl⟩
  · show ((busyPad 0 [] .poll true).presence .a 5).state = .present; decide +kernel
  · show ((busyPad 0 [] .poll true).presence .a 5).misses ≤ 3; decide +kernel
  · intro effects q hq hv
    exact absurd (visited_passing .running (.visiting true) 5 1 effects q hv) (Fin.ne_of_gt hq)
/-- A silent rotation with nothing left to visit: no frame owed, an effect waiting, an ASSIGN owed to position 5, and each
of the two under way. -/
theorem witness_SilentRotationFaultsTheArm_behind_a_frame :
    let s (effects : List EffectEntry) (line : Line) := (passing .running .reaching 6 1 effects).withArm .a
      { (passing .running .reaching 6 1 effects).armA with line := line, record := ⟨true, true, false⟩ }
    let owed := (s [] .free).withArm .a ((s [] .free).armA.withPresence 5 ⟨.present, 0, true, 0, true⟩)
    (∀ effects line, (s effects line).rstnLow = false ∧ ((s effects line).arm .a).phase = .running ∧
      ((s effects line).arm .a).record = ⟨true, true, false⟩ ∧ ((s effects line).arm .a).pass = .reaching ∧
      ((s effects line).arm .a).line = line ∧ ((s effects line).arm .a).effects = effects ∧
      ((s effects line).arm .a).alternation = .poll ∧ (∀ q, ((s effects line).presence .a q).assign = false) ∧
      ∀ q, ((s effects line).arm .a).position ≤ q → ¬ (s effects line).visited .a q) ∧
    ¬ (s [] .free).frameGoesFirst .a ∧ (owed.arm .a).record = ⟨true, true, false⟩ ∧ (owed.arm .a).pass = .reaching ∧
    (owed.presence .a 5).assign = true ∧ (∀ q, q < 5 → (owed.presence .a q).assign = false) ∧
    ∀ q, (owed.arm .a).position ≤ q → ¬ owed.visited .a q := by
  intro s owed
  have above : ∀ q : Fin 32, 6 ≤ q → q ≠ 5 := by decide
  have assign : ∀ q : Fin 32, ((busyPad 0 [] .poll true).presence .a q).assign = false := by decide +kernel
  have low : ∀ q : Fin 32, q < 5 → (owed.presence .a q).assign = false := by decide +kernel
  have high : ∀ q : Fin 32, 6 ≤ q → (owed.presence .a q).state = .excluded := by decide +kernel
  refine ⟨fun effects line => ⟨rfl, rfl, rfl, rfl, rfl, rfl, rfl, fun q => assign q, fun q hq hv =>
      above q hq (visited_passing .running .reaching 6 1 effects q hv)⟩, ?_, rfl, rfl, by decide +kernel, low,
    fun q hq => not_visited_of_excluded (high q hq)⟩
  rintro (⟨p, hp⟩ | ⟨h, -⟩)
  · exact absurd hp (by show ¬ ((busyPad 0 [] .poll true).presence .a p).assign = true; rw [assign p]; decide)
  · exact h rfl
theorem witness_FrameOpportunitySendsOneFrame :
    let s (count : Nat) (effects : List EffectEntry) (alt : Alternation) := busyPad count effects alt true
    let owed := (s 0 [] .poll).withArm .a ((s 0 [] .poll).armA.withPresence 5 ⟨.present, 0, true, 0, true⟩)
    (s 0 [] .poll).rstnLow = false ∧ ((s 0 [] .poll).arm .a).active = true ∧ ((s 0 [] .poll).arm .a).line = .free ∧
    ((s 0 [] .poll).arm .a).pass = .visiting true ∧ (owed.presence .a 5).assign = true ∧
    (∀ q, q < 5 → (owed.presence .a q).assign = false) ∧ (∀ p, ((s 0 [] .poll).presence .a p).assign = false) ∧
    ((s 0 [⟨.all, .dark⟩] .poll).arm .a).effects = ⟨.all, .dark⟩ :: [] ∧
    ((s 0 [⟨.all, .dark⟩] .poll).arm .a).alternation = .poll ∧
    ((s 11 [⟨.all, .dark⟩] .effect).arm .a).alternation = .effect ∧
    ((s 11 [⟨.all, .dark⟩] .effect).arm .a).fifo.length < (s 11 [⟨.all, .dark⟩] .effect).engine.highMark ∧
    (s 12 [] .poll).engine.highMark ≤ ((s 12 [] .poll).arm .a).fifo.length ∧ ((s 12 [] .poll).arm .a).effects = [] := by
  decide +kernel
/-- Between rotations with the wait not over, nothing to send and an effect waiting whatever the alternation memory says;
before a position 0 that is passed over, with the effect frame to go first. -/
theorem witness_FrameOpportunitySendsOneFrame_without_a_visit :
    let s (pass : Pass) (alt : Alternation) (effects : List EffectEntry) := (passing .running pass 0 1 effects).withArm .a
      { (passing .running pass 0 1 effects).armA with alternation := alt }
    (∀ alt effects, (s .between alt effects).rotationStands .a ∧ (s .between alt effects).pairFree .a ∧
      ((s .between alt effects).arm .a).phase = .running ∧ ((s .between alt effects).arm .a).effects = effects ∧
      ∀ q, ((s .between alt effects).presence .a q).assign = false) ∧
    (∀ alt polled, ((s .between alt []).arm .a).pass ≠ .visiting polled) ∧
    (s .reaching .poll [⟨.all, .dark⟩]).rotationStands .a := by
  have assign : ∀ q : Fin 32, ((busyPad 0 [] .poll true).presence .a q).assign = false := by decide +kernel
  refine ⟨fun _ _ => ⟨.inr (.inl ⟨rfl, rfl, _, rfl, .inr ⟨rfl, rfl, rfl⟩⟩), .inl rfl, rfl, rfl, fun q => assign q⟩, ?_,
    .inr (.inr ⟨rfl, .inr ⟨List.cons_ne_nil _ _, rfl⟩, fun hv => ?_⟩)⟩
  · intro alt polled h; cases h
  · exact absurd (visited_passing .running .reaching 0 1 [⟨.all, .dark⟩] 0 hv) (by decide)
theorem witness_FrameEndsAndStrayFrames :
    let s (line : Line) := (busyPad 0 [⟨.all, .dark⟩] .poll true).withArm .a
      { (busyPad 0 [⟨.all, .dark⟩] .poll true).armA with line := line }
    (s .free).rstnLow = false ∧ ((s .free).arm .a).active = true ∧ ((s .free).arm .a).pass = .visiting true ∧
    ((s (.effect [0x50, 63, 0x35] true)).arm .a).line = .effect [0x50, 63, 0x35] true ∧
    ((s (.effect [0x50, 63, 0x35] false)).arm .a).line = .effect [0x50, 63, 0x35] false ∧
    ((s (.assign 31 [0x20, 31, 1, 0x64] false)).arm .a).line = .assign 31 [0x20, 31, 1, 0x64] false ∧
    ((s (.assign 31 [0x20, 31, 1, 0x64] true)).arm .a).line = .assign 31 [0x20, 31, 1, 0x64] true ∧
    ((s .free).arm .a).line = .free ∧ ((s .lapsed).arm .a).line = .lapsed := by decide +kernel
/-- A poll that a TILE-WRITE ended has left its visit; a frame ends outside a visit; an arm that receives nothing. -/
theorem witness_FrameEndsAndStrayFrames_outside_a_visit :
    let s (phase : ArmPhase) (line : Line) := (passing phase .reaching 6 1 []).withArm .a
      { (passing phase .reaching 6 1 []).armA with line := line }
    ((s .running .lapsed).arm .a).line = .lapsed ∧ ((s .running .lapsed).arm .a).pass = .reaching ∧
    (s .running .lapsed).pairFree .a ∧ ((s .running .lapsed).arm .a).active = true ∧
    ((s .running (.effect [0x50, 63, 0x35] true)).arm .a).pass = .reaching ∧
    ¬ (s .running (.effect [0x50, 63, 0x35] true)).pairFree .a ∧
    (∀ p f again, ((s .running .free).arm .a).line ≠ .assign p f again) ∧ ((s .off .free).arm .a).active = false := by
  refine ⟨rfl, rfl, .inr rfl, rfl, rfl, ?_, ?_, rfl⟩
  · rintro (h | h) <;> cases h
  · intro p f again h; cases h
/-- A PRESS with a new toggle that the pad can produce and one with the old toggle; a PLACE, which it cannot. -/
theorem witness_EventAnswersAreTakenOnce :
    let s := polled .a 5 (busyPad 0 [] .poll true)
    let absent := s.withArm .a { s.armA.withPresence 5 ⟨.absent, 3, true, 0, false⟩ with record := ⟨true, true, true⟩ }
    s.rstnLow = false ∧ (s.arm .a).phase = .running ∧ (s.arm .a).line = .poll ⟨5, false, true⟩ [] ∧
    (s.arm .a).position = 5 ∧ (s.arm .a).pass = .visiting true ∧ (s.presence .a 5).state = .present ∧
    (s.presence .a 5).taken < 3 ∧ (absent.presence .a 5).state = .absent ∧ (absent.arm .a).record.answered = true ∧
    false ≠ (s.presence .a 5).toggle ∧ TileEvent.press.source = (s.mapRec .a 5).kind ∧
    (TileEvent.place ⟨63, .neutral⟩).source ≠ (s.mapRec .a 5).kind ∧ ¬ (true ≠ (s.presence .a 5).toggle) := by
  decide +kernel
/-- The ways in which the end of a visit does not fault the arm, each alone. -/
theorem witness_goesOnBehind :
    let s (phase : ArmPhase) (effects : List EffectEntry) := passing phase (.visiting true) 0 1 effects
    (s .enumerating []).goesOnBehind .a 31 ⟨true, true, false⟩ false ∧
    (s .running []).goesOnBehind .a 31 ⟨true, false, false⟩ false ∧
    (s .running []).goesOnBehind .a 4 ⟨true, true, false⟩ false ∧
    (s .running [⟨.all, .dark⟩]).goesOnBehind .a 30 ⟨true, true, false⟩ false ∧
    (s .running []).goesOnBehind .a 30 ⟨true, true, false⟩ true :=
  ⟨.inl rfl, .inr (.inl (by decide)), .inr (.inr (.inl ⟨5, by decide, visited_five _ _ _ _⟩)),
    .inr (.inr (.inr ⟨by decide, .inr (.inr ⟨List.cons_ne_nil _ _, rfl⟩)⟩)), .inr (.inr (.inr ⟨by decide, .inl rfl⟩))⟩
/-- A silent rotation at the poll of position 5 of arm A, the last that is visited: the poll started when the position was
not PRESENT. -/
def silent (greeting : Bool) : State := (passing .running (.visiting true) 5 1 []).withArm .a
  { (passing .running (.visiting true) 5 1 []).armA with
    line := .poll ⟨5, greeting, false⟩ [], record := ⟨true, true, false⟩ }
/-- It ends behind position 5 with no ASSIGN owed there, and behind position 31 whatever is owed. -/
theorem silent_ends (greeting : Bool) (p : Fin 32) (owed : Bool) (h : (p = 5 ∧ owed = false) ∨ p = 31) :
    ¬ (silent greeting).goesOnBehind .a p ⟨true, true, false⟩ owed := by
  have assign : ∀ q : Fin 32, ((busyPad 0 [] .poll true).presence .a q).assign = false := by decide +kernel
  have le : 5 ≤ p := by obtain ⟨rfl, -⟩ | rfl := h <;> decide
  rintro (h' | h' | ⟨q, hq, hv⟩ | ⟨hp, h' | ⟨q, -, ha⟩ | ⟨h', -⟩⟩)
  · cases h'
  · exact h' ⟨rfl, rfl, rfl⟩
  · exact absurd (visited_passing .running (.visiting true) 5 1 [] q hv) (Fin.ne_of_gt (Fin.lt_of_le_of_lt le hq))
  · obtain ⟨-, rfl⟩ | rfl := h
    · cases h'
    · exact absurd hp (by decide)
  · exact absurd ha (by show ¬ ((busyPad 0 [] .poll true).presence .a q).assign = true; rw [assign q]; decide)
  · exact h' rfl
/-- An event answer that ends a silent rotation. -/
theorem witness_EventAnswersAreTakenOnce_ended :
    let s := silent false
    s.rstnLow = false ∧ (s.arm .a).phase = .running ∧ (s.arm .a).line = .poll ⟨5, false, false⟩ [] ∧
    (s.arm .a).position = 5 ∧ (s.arm .a).pass = .visiting true ∧ (s.presence .a 5).state = .present ∧
    ¬ ((false = true ∧ (s.presence .a 5).taken < 3) ∨ s.goesOnBehind .a 5 ⟨(s.arm .a).record.presentAtStart,
      (s.arm .a).record.completed || false, (s.arm .a).record.answered || false⟩ (s.presence .a 5).assign) := by
  refine ⟨rfl, rfl, rfl, rfl, rfl, by decide +kernel, ?_⟩
  rintro (⟨h, -⟩ | h)
  · cases h
  · have none : ((silent false).presence .a 5).assign = false := by decide +kernel
    exact silent_ends false 5 _ (.inl ⟨rfl, none⟩) h
/-- A HELLO of the other kind that ends a silent rotation, one of the map's kind behind which it waits for the ASSIGN, and
a miss that ends it. -/
theorem witness_HelloAndIdleDecideThePresence_ended :
    let s := silent true
    let after (k : TileKind) : PresenceRec := if k = .pad then ⟨.present, 0, true, 0, true⟩ else ⟨.mismatch, 0, true, 0, false⟩
    (s.arm .a).active = true ∧ (s.arm .a).line = .poll ⟨5, true, false⟩ [] ∧ (s.arm .a).position = 5 ∧
    (s.mapRec .a 5).kind = .pad ∧ ¬ s.goesOnBehind .a 5 ⟨true, true, false⟩ (after .reader).assign ∧
    (5 : Fin 32).val < 31 ∧ s.firstBehind .a 5 (after .pad).assign ∧ (∀ q, 5 < q → ¬ s.visited .a q) ∧
    s.goesOnBehind .a 5 ⟨true, true, false⟩ (after .pad).assign := by
  exact ⟨by decide +kernel, rfl, rfl, by decide +kernel, silent_ends true 5 _ (.inl ⟨rfl, rfl⟩), by decide, .inl rfl,
    fun q hq hv => absurd (visited_passing .running (.visiting true) 5 1 [] q hv) (Fin.ne_of_gt hq),
    .inr (.inr (.inr ⟨by decide, .inl rfl⟩))⟩
theorem witness_MissesAreCountedAndLoseTheTile_ended :
    let s := silent false
    let r := s.presence .a 5
    (s.arm .a).active = true ∧ (s.arm .a).pass = .visiting true ∧ r.state = .present ∧ r.misses < 2 ∧
    judgeAnswer ⟨5, false, false⟩ [⟨0x90, false⟩] = .error .framing ∧
    ¬ ((r.state = .unknown ∧ r.misses < 2) ∨ s.goesOnBehind .a 5 ⟨(s.arm .a).record.presentAtStart,
      (s.arm .a).record.completed || false, (s.arm .a).record.answered⟩ { r with misses := r.misses + 1 }.assign) := by
  intro s r
  have present : r.state = .present := by decide +kernel
  have none : r.assign = false := by decide +kernel
  refine ⟨by decide +kernel, rfl, present, by decide +kernel, by decide +kernel, ?_⟩
  rintro (⟨h, -⟩ | h)
  · rw [present] at h; cases h
  · exact silent_ends false 5 _ (.inl ⟨rfl, none⟩) h
/-- An ABSENT position that answers before any PRESENT one has, with three events taken in the visit. -/
theorem witness_EventAnswersAreTakenOnce_first_of_the_rotation :
    let x := reader 3 .absent 0
    let s := polled .b 1 (x.withArm .b { x.armB.withPresence 1 ⟨.absent, 3, false, 3, false⟩ with record := ⟨true, false, false⟩ })
    s.rstnLow = false ∧ (s.arm .b).phase = .running ∧ (s.arm .b).line = .poll ⟨1, false, false⟩ [] ∧
    (s.arm .b).position = 1 ∧ (s.arm .b).pass = .visiting true ∧ (s.presence .b 1).state = .absent ∧
    3 ≤ (s.presence .b 1).taken ∧ s.goesOnBehind .b 1 ⟨true, false, false⟩ false :=
  ⟨rfl, rfl, by decide +kernel, rfl, rfl, by decide +kernel, by decide +kernel, .inr (.inl (by decide))⟩
/-- HELLO from an UNKNOWN position, IDLE from an ABSENT and a PRESENT one, an event from a MISMATCH one. -/
theorem witness_HelloAndIdleDecideThePresence :
    let s := polled .b 0 enumerating
    let lost := polled .b 1 (reader 3 .absent 0)
    let found := polled .b 1 (reader 2 .present 1)
    let other := polled .b 1 (reader 2 .mismatch 0)
    s.rstnLow = false ∧ (s.arm .b).active = true ∧ (s.arm .b).line = .poll ⟨0, true, false⟩ [] ∧
    (s.arm .b).position = 0 ∧ (s.presence .b 0).state = .unknown ∧ (s.arm .b).phase = .enumerating ∧
    TileKind.pad = (s.mapRec .b 0).kind ∧ TileKind.reader ≠ (s.mapRec .b 0).kind ∧
    (lost.arm .b).line = .poll ⟨1, false, false⟩ [] ∧ (lost.presence .b 1).state = .absent ∧
    (lost.arm .b).record.answered = true ∧ (found.arm .b).line = .poll ⟨1, false, true⟩ [] ∧
    (found.presence .b 1).state = .present ∧ (other.presence .b 1).state = .mismatch ∧
    (∀ k, Answer.event .press true true ≠ .hello k) :=
  ⟨rfl, rfl, by decide +kernel, rfl, by decide +kernel, rfl, by decide +kernel, by decide +kernel, by decide +kernel,
    by decide +kernel, by decide +kernel, by decide +kernel, by decide +kernel, by decide +kernel, (by intro k h; cases h)⟩
/-- A HELLO of the map's kind below position 31, and answers before any PRESENT position has answered. -/
theorem witness_HelloAndIdleDecideThePresence_first_of_the_rotation :
    let x := reader 0 .mismatch 0
    let s := polled .b 1 (x.withArm .b { x.armB with record := ⟨true, false, false⟩ })
    Answer.hello .reader = .hello (s.mapRec .b 1).kind ∧ (1 : Fin 32).val < 31 ∧ (s.presence .b 1).state = .mismatch ∧
    (s.arm .b).line = .poll ⟨1, false, false⟩ [] ∧ s.goesOnBehind .b 1 ⟨true, false || false, false || false⟩ true :=
  ⟨by decide +kernel, by decide, by decide +kernel, by decide +kernel, .inr (.inl (by decide))⟩
/-- Answers to a greeting poll of position 3 that fail one check each, in the order of the checks, and one that passes. -/
theorem witness_AnswersAreExactlyTheFramesOfTheTable :
    let poll : Poll := ⟨3, true, false⟩
    (¬ ∀ b ∈ ([⟨0x90, false⟩] : List LineByte), b.stopOk = true) ∧ (∀ b ∈ sent 0x90 3 [1], b.stopOk = true) ∧
    ([0x90, 3, 0xC9] : List Byte).length = 3 ∧ (0x90 : Byte).toNat / 16 = 9 ∧
    ([0x90, 3, 1, 0xC8] : List Byte).foldl (· ^^^ ·) 0 = 0x5A ∧ ([0x90, 3, 1, 0xC9] : List Byte).foldl (· ^^^ ·) 0 ≠ 0x5A ∧
    judgeAnswer poll [⟨0x90, false⟩] = .error .framing ∧ judgeAnswer poll (goodBytes [0x90, 3, 0xC9]) = .error .shape ∧
    judgeAnswer poll (goodBytes [0x90, 3, 1, 0xC9]) = .error .check ∧
    judgeAnswer poll (sent 0x90 4 [1]) = .error .stray ∧ judgeAnswer poll (sent 0x90 3 [3]) = .error .shape ∧
    judgeAnswer poll (sent 0x80 3 []) = .error .shape := by decide +kernel
/-- The first miss of an UNKNOWN position and the third of a PRESENT one; the answer fails each check of R23 in turn. -/
theorem witness_MissesAreCountedAndLoseTheTile :
    let s := polled .b 1 enumerating
    let t := polled .b 1 (reader 2 .present 9)
    s.rstnLow = false ∧ (s.arm .b).active = true ∧ (s.arm .b).line = .poll ⟨1, true, false⟩ [] ∧
    (s.arm .b).position = 1 ∧ (s.arm .b).pass = .visiting true ∧ (s.presence .b 1) = ⟨.unknown, 0, true, 0, false⟩ ∧
    (s.arm .b).phase = .enumerating ∧ judgeAnswer ⟨1, true, false⟩ (goodBytes [0x90, 1, 2, 0]) = .error .check ∧
    judgeAnswer ⟨1, true, false⟩ [⟨0x90, false⟩] = .error .framing ∧
    judgeAnswer ⟨1, true, false⟩ (goodBytes [0x90]) = .error .shape ∧
    judgeAnswer ⟨1, true, false⟩ (sent 0x90 2 [2]) = .error .stray ∧
    (t.arm .b).line = .poll ⟨1, false, true⟩ [] ∧ (t.presence .b 1) = ⟨.present, 2, false, 0, false⟩ ∧
    (t.arm .b).record.answered = true := by decide +kernel
/-- An ordinary miss of the first PRESENT position of a rotation, with a PRESENT position behind it. -/
theorem witness_MissesAreCountedAndLoseTheTile_first_of_the_rotation :
    let x := reader 0 .present 1
    let s := polled .b 0 (x.withArm .b { x.armB with record := ⟨true, false, false⟩ })
    s.rstnLow = false ∧ (s.arm .b).active = true ∧ (s.arm .b).line = .poll ⟨0, false, true⟩ [] ∧ (s.arm .b).position = 0 ∧
    (s.arm .b).pass = .visiting true ∧ s.presence .b 0 = ⟨.present, 0, true, 0, false⟩ ∧
    s.goesOnBehind .b 0 ⟨true, false || true, false⟩ false :=
  ⟨rfl, rfl, by decide +kernel, rfl, rfl, by decide +kernel,
    .inr (.inr (.inl ⟨1, by decide, .inr ⟨rfl, .inl (by decide +kernel)⟩⟩))⟩

end Sys2Proof.Tests
end

section
/-! The bytes of request fields, read and written (R183): each reader accepts exactly the byte of its value. -/

namespace Sys2Proof.Machine

open Sys2Proof

/-- A number field reads a number exactly from that number's byte (R183). -/
theorem numberField_eq_some {n : Nat} (hn : n ≤ 256) {b : Byte} {x : Fin n} :
    numberField n b = some x ↔ b = byteOf x.val := by
  constructor
  · intro h
    rw [numberField_val h, byteOf, BitVec.ofNat_toNat, BitVec.setWidth_eq]
  · rintro rfl
    have hv : (byteOf x.val).toNat = x.val := by
      rw [byteOf, BitVec.toNat_ofNat, Nat.mod_eq_of_lt (by omega)]
    simp [numberField, hv]

theorem yesNoField_eq_some {b : Byte} {v : Bool} : yesNoField b = some v ↔ b = yesNoCode v := by
  cases v <;> revert b <;> decide

theorem armField_eq_some {b : Byte} {i : ArmId} : armField b = some i ↔ b = armCode i := by
  cases i <;> revert b <;> decide

theorem tileKindField_eq_some {b : Byte} {k : TileKind} : tileKindField b = some k ↔ b = tileKindCode k := by
  cases k <;> revert b <;> decide

/-- A body is one arm index exactly when it is that arm's byte (R33, R35, R44). -/
theorem oneArm_eq_some {body : List Byte} {i : ArmId} : oneArm body = some i ↔ body = [armCode i] := by
  match body with
  | [] | _ :: _ :: _ => simp [oneArm]
  | [b] => simp [oneArm, armField_eq_some]

theorem oneNumber_eq_some {n : Nat} (hn : n ≤ 256) {body : List Byte} {x : Fin n} :
    oneNumber n body = some x ↔ body = [byteOf x.val] := by
  match body with
  | [] | _ :: _ :: _ => simp [oneNumber]
  | [b] => simp [oneNumber, numberField_eq_some hn]

/-- A body is a TILE-WRITE exactly when it spells a record index and the four fields (R3). -/
theorem parseTileWrite_eq_some {body : List Byte} {k : Fin 64} {r : TileRec} :
    parseTileWrite body = some (k, r) ↔
      body = [byteOf k.val, yesNoCode r.excluded, tileKindCode r.kind, byteOf r.zone.val, yesNoCode r.echo] := by
  match body with
  | [] | [_] | [_, _] | [_, _, _] | [_, _, _, _] | _ :: _ :: _ :: _ :: _ :: _ :: _ => simp [parseTileWrite]
  | [index, excluded, kind, zone, echo] =>
    simp only [List.cons.injEq, and_true, ← numberField_eq_some (show 64 ≤ 256 by decide),
      ← numberField_eq_some (show 16 ≤ 256 by decide), ← yesNoField_eq_some, ← tileKindField_eq_some]
    simp only [parseTileWrite]
    split
    · rename_i i x t z e hi hx ht hz he
      cases r
      simp [hi, hx, ht, hz, he]
    · rename_i hn
      constructor
      · simp
      · rintro ⟨h1, h2, h3, h4, h5⟩
        exact (hn _ _ _ _ _ h1 h2 h3 h4 h5).elim

/-- The arm and the position of a record's index (R1). -/
@[simp] theorem indexArm_tileIndex (i : ArmId) (p : Fin 32) : indexArm (tileIndex i p) = i := by
  cases i <;> simp [indexArm, tileIndex]

@[simp] theorem indexPosition_tileIndex (i : ArmId) (p : Fin 32) : indexPosition (tileIndex i p) = p := by
  ext
  cases i <;> simp [indexPosition, tileIndex, Nat.mod_eq_of_lt p.isLt]

/-- Every record index is the one of a position (R1). -/
@[simp] theorem tileIndex_index (k : Fin 64) : tileIndex (indexArm k) (indexPosition k) = k := by
  revert k; decide

/-! A request that comes up when it is served (R122, R174). -/

theorem State.handlerFree_of_idle {s : State} (h : s.handlerIdle) : s.handlerFree = true := by
  obtain ⟨hr, hh, hf⟩ := h
  simp [State.handlerFree, State.alive, hr, hh, hf]

/-- A direct request that comes up while the handler is free is served at once, with its reply made (R174, R175). -/
theorem serveDirect_idle (item : List Byte → State → State × Reply) (body : List Byte) {s : State} (h : s.handlerIdle) :
    serveDirect item body s = (item body s).1.withHandler (.reply (item body s).2) := by
  simp [serveDirect, State.handlerFree_of_idle h]

theorem State.mayServe_of_serving {s : State} {kind : Byte} {body : List Byte} (h : s.serving kind body) :
    s.mayServe kind body = true := by
  obtain ⟨hr, he, hh | ⟨hh, hf⟩⟩ := h
  · exact s.mayServe_pending kind body hr he hh
  · exact s.mayServe_free kind body hr he hh hf

/-- Settles O23: each report is read off its item, behind the body's parse. -/
theorem reportsOfTheDirectRequests : Obligations.ReportsOfTheDirectRequests := by
  refine ⟨fun s body hs => ⟨?_, ?_⟩, fun s body hs => ⟨?_, ?_⟩, fun s body hs => ⟨?_, ?_⟩⟩
  · rintro rfl
    exact congrArg _ (serveDirect_idle identifyItem [] hs)
  · intro hb
    simp [exec, execIdentify, serveDirect_idle _ _ hs, identifyItem, hb, State.replying, Reply.invalid]
  · intro i hb
    simp [exec, execArmStatus, serveDirect_idle _ _ hs, armStatusItem, oneArm_eq_some.mpr hb, State.replying, Reply.done,
      armStatusContent]
  · intro hb
    have hn : oneArm body = none := Option.eq_none_iff_forall_ne_some.mpr fun i h => hb ⟨i, oneArm_eq_some.mp h⟩
    simp [exec, execArmStatus, serveDirect_idle _ _ hs, armStatusItem, hn, State.replying, Reply.invalid]
  · intro i p hb
    simp [exec, execTileRead, serveDirect_idle _ _ hs, tileReadItem, (oneNumber_eq_some (by decide)).mpr hb, State.replying,
      Reply.done, tileReadContent, State.mapRec]
  · intro hb
    have hn : oneNumber 64 body = none :=
      Option.eq_none_iff_forall_ne_some.mpr fun k h => hb ⟨k, (oneNumber_eq_some (by decide)).mp h⟩
    simp [exec, execTileRead, serveDirect_idle _ _ hs, tileReadItem, hn, State.replying, Reply.invalid]

/-- An arm drives its pair exactly in ENUMERATING and RUNNING (R36). -/
theorem Arm.active_iff (x : Arm) : x.active = true ↔ x.phase = .enumerating ∨ x.phase = .running := by
  simp [Arm.active]

theorem Arm.active_eq_false_iff (x : Arm) : x.active = false ↔ x.phase = .off ∨ x.phase = .faulted := by
  cases h : x.phase <;> simp [Arm.active, h]

/-- Settles O24: the arm that the item leaves is written out field by field. -/
theorem armStartAndArmStopMoveTheArm : Obligations.ArmStartAndArmStopMoveTheArm := by
  have none_of {body : List Byte} (hb : ¬ ∃ i, body = [armCode i]) : oneArm body = none :=
    Option.eq_none_iff_forall_ne_some.mpr fun i h => hb ⟨i, oneArm_eq_some.mp h⟩
  refine ⟨fun s body hs => ⟨?_, ?_, ?_⟩, fun s body hs => ⟨?_, ?_⟩⟩
  · intro i hb hp
    have ha := (Arm.active_eq_false_iff _).mpr hp
    simp only [exec, execArmStart, serveDirect_idle _ _ hs, armStartItem, oneArm_eq_some.mpr hb, ha]
    rfl
  · intro i hb hp
    have ha := (Arm.active_iff _).mpr hp
    simp [exec, execArmStart, serveDirect_idle _ _ hs, armStartItem, oneArm_eq_some.mpr hb, ha, State.replying, Reply.busy]
  · intro hb
    simp [exec, execArmStart, serveDirect_idle _ _ hs, armStartItem, none_of hb, State.replying, Reply.invalid]
  · intro i hb
    simp only [exec, execArmStop, serveDirect_idle _ _ hs, armStopItem, oneArm_eq_some.mpr hb]
    rfl
  · intro hb
    simp [exec, execArmStop, serveDirect_idle _ _ hs, armStopItem, none_of hb, State.replying, Reply.invalid]

/-- Settles O5: every list is empty, every record at its power-on value. -/
theorem resetStateIsSound : Obligations.ResetStateIsSound := by
  refine ⟨?_, ?_, ?_, ?_, ?_, ?_, ?_, ?_⟩
  · simp [State.setupSound, State.reset, State.started, State.blank, Engine.powerOn]
  · simp [State.alertsSound, State.reset, State.started]
  · refine ⟨?_, by decide⟩
    rintro (_ | _) <;> simp [Arm.queuesSound, State.arm, State.reset, State.started, State.blank, Arm.powerOn, Line.awaiting]
  · have quest (q : Fin 16) : State.reset.quest q = Quest.powerOn := by
      simp [State.quest, State.reset, State.started, State.blank, Engine.powerOn]
    have timer (q : Fin 16) : State.reset.timers[q] = ⟨false, 0⟩ := by
      simp [State.reset, State.started, State.blank]
    refine ⟨fun q => ?_, fun q => ?_, List.nodup_nil, fun q hq => nomatch hq⟩
    · rw [quest]
      refine ⟨by decide, by decide, fun c k h => ?_⟩
      simp [Quest.powerOn, QuestDef.powerOn] at h
    · simp [timer]
  · intro i p
    have h1 : State.reset.presence i p = PresenceRec.fresh .excluded := by
      cases i <;> simp [State.presence, State.arm, State.reset, State.started, State.blank, Arm.powerOn]
    have h2 : State.reset.mapRec i p = TileRec.powerOn := by
      simp [State.mapRec, State.reset, State.started, State.blank]
    rw [h1, h2]
    simp [PresenceRec.soundFor, PresenceRec.fresh, TileRec.powerOn]
  · exact ⟨by decide, by decide, fun w h => nomatch h⟩
  · simp [State.transmissionSound, State.reset, State.started, State.blank, Uplink.powerOn]
  · rintro (_ | _) frame h <;> cases h

end Sys2Proof.Machine
end

section
/-! Where the rotation stands (R25, R27, R28, R34): the tests of the arm controller as the statements say them, one move
of the pass at a time, and the states in which it moves no further. -/

namespace Sys2Proof.Machine

open Sys2Proof

/-- The first index at which a test holds: it holds there and at none below. -/
theorem find_finRange_eq_some {n : Nat} {f : Fin n → Bool} {p : Fin n} :
    (List.finRange n).find? f = some p ↔ f p = true ∧ ∀ q, q < p → f q = false := by
  rw [List.find?_eq_some_iff_getElem]
  simp only [List.getElem_finRange, List.length_finRange, Bool.not_eq_eq_eq_not, Bool.not_true]
  refine and_congr_right fun _ => ⟨?_, fun h => ⟨p.val, p.isLt, rfl, fun j hj => h ⟨j, by omega⟩ hj⟩⟩
  rintro ⟨k, hk, rfl, hlt⟩ q hq
  exact hlt q.val hq

theorem find_finRange_eq_none {n : Nat} {f : Fin n → Bool} :
    (List.finRange n).find? f = none ↔ ∀ q, f q = false := by
  simp [List.find?_eq_none]

theorem State.visited_iff (s : State) (i : ArmId) (p : Fin 32) :
    s.visited i p ↔ (s.arm i).visits ((s.arm i).presence[p]).state = true := by
  unfold State.visited State.presence Arm.visits
  cases ((s.arm i).presence[p]).state <;> simp

theorem State.pairFree_iff (s : State) (i : ArmId) : s.pairFree i ↔ (s.arm i).line.idle = true := by
  unfold State.pairFree Line.idle
  cases (s.arm i).line <;> simp

theorem Arm.assignDue_eq_some {x : Arm} {p : Fin 32} :
    x.assignDue = some p ↔ (x.presence[p]).assign = true ∧ ∀ q, q < p → (x.presence[q]).assign = false :=
  find_finRange_eq_some

theorem Arm.assignDue_eq_none {x : Arm} : x.assignDue = none ↔ ∀ q : Fin 32, (x.presence[q]).assign = false :=
  find_finRange_eq_none

theorem State.frameGoesFirst_iff (s : State) (i : ArmId) : s.frameGoesFirst i ↔ (s.arm i).frameBeforePoll = true := by
  have due : (∃ p, (s.presence i p).assign = true) ↔ (s.arm i).assignDue.isSome = true := by
    rw [← not_iff_not]
    simp [Arm.assignDue_eq_none, State.presence]
  unfold State.frameGoesFirst Arm.frameBeforePoll
  rw [due]
  simp

theorem State.not_frameGoesFirst_iff (s : State) (i : ArmId) :
    ¬ s.frameGoesFirst i ↔ (s.arm i).frameBeforePoll = false := by
  rw [State.frameGoesFirst_iff, Bool.not_eq_true]

/-- The first position from the pass's own on that it visits (R27). -/
theorem State.nextStop_eq_some {s : State} {i : ArmId} {p : Fin 32} : (s.arm i).nextStop = some p ↔
    ((s.arm i).position ≤ p ∧ s.visited i p) ∧ ∀ q, q < p → (s.arm i).position ≤ q → ¬ s.visited i q := by
  simp [Arm.nextStop, find_finRange_eq_some, State.visited_iff]

theorem State.nextStop_eq_none {s : State} {i : ArmId} : (s.arm i).nextStop = none ↔
    ∀ q, (s.arm i).position ≤ q → ¬ s.visited i q := by
  simp [Arm.nextStop, State.visited_iff]

theorem State.passesOver_iff (s : State) (i : ArmId) :
    (s.arm i).passesOver = true ↔ (s.arm i).pass = .reaching ∧ ¬ s.visited i (s.arm i).position := by
  simp [Arm.passesOver, State.visited_iff]

/-! ### One move of the pass -/

section Moves

variable {s : State} {i : ArmId}

theorem State.movePass_visiting {polled : Bool} (h : (s.arm i).pass = .visiting polled) : s.movePass i = s := by
  simp [State.movePass, h]

theorem State.movePass_reaching (h : (s.arm i).pass = .reaching) : s.movePass i = s.withArm i (s.arm i).reach := by
  simp [State.movePass, h]

theorem State.movePass_between (h : (s.arm i).pass = .between) (hm : (s.arm i).mayStart = true) :
    s.movePass i = s.withArm i (s.arm i).startRotation := by
  simp [State.movePass, h, hm]

theorem State.movePass_waiting (h : (s.arm i).pass = .between) (hm : (s.arm i).mayStart = false) : s.movePass i = s := by
  simp [State.movePass, h, hm]

theorem State.movePass_enumerated (h : (s.arm i).pass = .ended) (hp : (s.arm i).phase = .enumerating) :
    s.movePass i = s.withArm i ({ s.arm i with phase := .running, counter := 1 } : Arm).startRotation := by
  simp [State.movePass, h, hp]

theorem State.movePass_silent (h : (s.arm i).pass = .ended) (hp : (s.arm i).phase = .running)
    (hf : (s.arm i).faultTest = true) : s.movePass i = s.faultArm i := by
  simp [State.movePass, h, hp, hf]

theorem State.movePass_rotated (h : (s.arm i).pass = .ended) (hp : (s.arm i).phase = .running)
    (hf : (s.arm i).faultTest = false) :
    s.movePass i = s.withArm i { s.arm i with counter := (s.arm i).counter + 1, pass := .between } := by
  simp [State.movePass, h, hp, hf]

/-- With the arm driving an idle pair, and no position that is passed over behind another frame, the pass moves (R27). -/
theorem State.movePasses_succ (ha : (s.arm i).active = true) (hl : (s.arm i).line.idle = true) {hold : Bool}
    (hh : hold = false ∨ (s.arm i).passesOver = false) (n : Nat) :
    s.movePasses i hold (n + 1) = (s.movePass i).movePasses i hold n := by
  have : (hold && (s.arm i).passesOver) = false := by rcases hh with h | h <;> simp [h]
  simp [State.movePasses, ha, hl, this]

theorem Arm.passesOver_of_pass {x : Arm} (h : x.pass ≠ .reaching) : x.passesOver = false := by
  simp [Arm.passesOver, h]

/-! ### Where it stands still -/

/-- The pass stands where it is, however often it is moved. -/
def State.atRest (s : State) (i : ArmId) (hold : Bool) : Prop := ∀ n, s.movePasses i hold n = s

theorem State.atRest_of_movePass {hold : Bool} (h : s.movePass i = s) : s.atRest i hold := by
  intro n
  induction n with
  | zero => rfl
  | succ n ih => unfold State.movePasses; rw [h, ih, ite_self]

theorem State.atRest_of_blocked {hold : Bool}
    (h : ((s.arm i).active && (s.arm i).line.idle && !(hold && (s.arm i).passesOver)) = false) : s.atRest i hold := by
  intro n
  cases n with
  | zero => rfl
  | succ n => rw [State.movePasses, h, if_neg Bool.false_ne_true]

theorem State.atRest_of_inactive {hold : Bool} (h : (s.arm i).active = false) : s.atRest i hold :=
  State.atRest_of_blocked (by simp [h])

theorem State.atRest_held (h : (s.arm i).passesOver = true) : s.atRest i true :=
  State.atRest_of_blocked (by simp [h])

/-- At most `n` moves bring the pass to rest. -/
inductive State.RestsIn (i : ArmId) (hold : Bool) : Nat → State → Prop where
  | rest (n : Nat) (s : State) : s.atRest i hold → State.RestsIn i hold n s
  | move (n : Nat) (s : State) : State.RestsIn i hold n (s.movePass i) → State.RestsIn i hold (n + 1) s

theorem State.RestsIn.atRest {hold : Bool} {n : Nat} (h : State.RestsIn i hold n s) :
    (s.movePasses i hold n).atRest i hold := by
  induction h with
  | rest n s h => rw [h n]; exact h
  | move n s h ih =>
    unfold State.movePasses
    split
    · exact ih
    · rename_i hb
      exact State.atRest_of_blocked (by simpa using hb)

/-- A pass that has ended, and whose rotation does not fault the arm and waits for the next start, rests behind one move
more (R27, R42). -/
theorem State.restsIn_ended {hold : Bool} {n : Nat} (h : (s.arm i).pass = .ended) (hp : (s.arm i).phase = .running)
    (hm : (s.arm i).mayStart = false) : State.RestsIn i hold (n + 1) s := by
  refine .move n s (.rest n _ ?_)
  cases hf : (s.arm i).faultTest with
  | true =>
    rw [State.movePass_silent h hp hf]
    exact State.atRest_of_inactive (by rw [State.faultArm_arm]; rfl)
  | false =>
    rw [State.movePass_rotated h hp hf]
    exact State.atRest_of_movePass (State.movePass_waiting (by simp) (by simpa [Arm.mayStart] using hm))

theorem Arm.reach_of_some {x : Arm} {p : Fin 32} (h : x.nextStop = some p) :
    x.reach = { x.withPresence p { x.presence[p] with taken := 0 } with position := p, pass := .visiting false } := by
  simp [Arm.reach, h]

theorem Arm.reach_of_none {x : Arm} (h : x.nextStop = none) : x.reach = { x with pass := .ended } := by
  simp [Arm.reach, h]

/-- From a position that the pass is about to decide on, a rest is at most one move farther than from the pass's end. -/
theorem State.restsIn_reaching {hold : Bool} {n : Nat} (h : (s.arm i).pass = .reaching)
    (hend : State.RestsIn i hold n (s.withArm i { s.arm i with pass := .ended })) : State.RestsIn i hold (n + 1) s := by
  refine .move n s ?_
  rw [State.movePass_reaching h]
  cases hn : (s.arm i).nextStop with
  | none => rw [Arm.reach_of_none hn]; exact hend
  | some p =>
    refine .rest n _ (State.atRest_of_movePass (State.movePass_visiting (polled := false) ?_))
    rw [Arm.reach_of_some hn, State.withArm_arm_self]

/-- A rotation that has just started waits for the next start when it is over without a poll (R27, R42). -/
theorem Arm.startRotation_mayStart (x : Arm) : x.startRotation.mayStart = false := by
  simp [Arm.startRotation, Arm.mayStart]

/-- A rotation that has just started rests behind at most two moves. -/
theorem State.restsIn_started {hold : Bool} {n : Nat} (x : Arm) (hp : x.phase = .running) :
    State.RestsIn i hold (n + 2) (s.withArm i x.startRotation) :=
  State.restsIn_reaching (by simp [Arm.startRotation])
    (State.restsIn_ended (by simp) (by simpa [Arm.startRotation] using hp)
      (by simpa [Arm.mayStart] using x.startRotation_mayStart))

theorem State.restsIn_between {hold : Bool} {n : Nat} (h : (s.arm i).pass = .between) (hp : (s.arm i).phase = .running) :
    State.RestsIn i hold (n + 3) s := by
  cases hm : (s.arm i).mayStart with
  | true =>
    refine .move _ s ?_
    rw [State.movePass_between h hm]
    exact State.restsIn_started _ hp
  | false => exact .rest _ _ (State.atRest_of_movePass (State.movePass_waiting h hm))

theorem State.restsIn_overEnd {hold : Bool} {n : Nat} (h : (s.arm i).pass = .ended) : State.RestsIn i hold (n + 4) s := by
  cases ha : (s.arm i).active with
  | false => exact .rest _ _ (State.atRest_of_inactive ha)
  | true =>
    refine .move _ s ?_
    rcases (Arm.active_iff _).mp ha with hp | hp
    · rw [State.movePass_enumerated h hp]
      exact State.restsIn_started _ rfl
    · cases hf : (s.arm i).faultTest with
      | true =>
        rw [State.movePass_silent h hp hf]
        exact .rest _ _ (State.atRest_of_inactive (by rw [State.faultArm_arm]; rfl))
      | false =>
        rw [State.movePass_rotated h hp hf]
        exact State.restsIn_between (by simp) (by simpa using hp)

/-- Six moves bring every pass to rest: the longest way of a run leads past position 31 to the next rotation, which has
nothing to visit and waits (R27, R34, R42). -/
theorem State.restsIn_six {hold : Bool} (s : State) (i : ArmId) : State.RestsIn i hold 6 s := by
  cases h : (s.arm i).pass with
  | visiting polled => exact .rest _ _ (State.atRest_of_movePass (State.movePass_visiting h))
  | reaching => exact State.restsIn_reaching h (State.restsIn_overEnd (by simp))
  | ended => exact State.restsIn_overEnd h
  | between =>
    cases hm : (s.arm i).mayStart with
    | false => exact .rest _ _ (State.atRest_of_movePass (State.movePass_waiting h hm))
    | true =>
      refine .move 5 s ?_
      rw [State.movePass_between h hm]
      exact State.restsIn_reaching (by simp [Arm.startRotation]) (State.restsIn_overEnd (by simp))

theorem State.movePasses_six_atRest (s : State) (i : ArmId) (hold : Bool) : (s.movePasses i hold 6).atRest i hold :=
  (s.restsIn_six i).atRest

end Moves

/-! ### What moving the pass keeps -/

/-- What moves of the pass that raise no fault make of an arm `x` that is at no visit: they change where the rotation
stands, no arm that is RUNNING leaves that state, and the presence records stand, but that a visit which has begun has taken
no event yet (R27, R28, R34). -/
structure Arm.MovedFrom (x y : Arm) : Prop where
  frame : y = { x with
    phase := y.phase, counter := y.counter, position := y.position, pass := y.pass, rotationPolled := y.rotationPolled,
    record := y.record, startMark := y.startMark, presence := y.presence }
  presence : ∀ q : Fin 32, y.presence[q] =
    if y.pass = .visiting false ∧ y.position = q then { x.presence[q] with taken := 0 } else x.presence[q]
  unpolled : y.pass ≠ .visiting true
  running : x.phase = .running → y.phase = .running

namespace Arm.MovedFrom

variable {x y : Arm}

theorem refl (h : ∀ polled, x.pass ≠ .visiting polled) : x.MovedFrom x :=
  ⟨rfl, fun q => by rw [if_neg fun hq => h false hq.1], h true, id⟩

theorem presence_of_pass (h : x.MovedFrom y) (hp : ∀ polled, y.pass ≠ .visiting polled) (q : Fin 32) :
    y.presence[q] = x.presence[q] := by
  rw [h.presence q, if_neg fun hq => hp false hq.1]

theorem reach (h : x.MovedFrom y) (hp : y.pass = .reaching) : x.MovedFrom y.reach := by
  have kept := h.presence_of_pass (by simp [hp])
  cases hn : y.nextStop with
  | none =>
    rw [Arm.reach_of_none hn]
    exact ⟨by rw [h.frame], fun q => by simpa using kept q, by simp, h.running⟩
  | some p =>
    rw [Arm.reach_of_some hn]
    refine ⟨by rw [h.frame]; rfl, fun q => ?_, by simp, h.running⟩
    by_cases hq : p = q
    · subst hq; simp [Arm.withPresence, kept]
    · simpa [Arm.withPresence, hq, Fin.val_ne_of_ne hq] using kept q

theorem startRotation (h : x.MovedFrom y) (hp : ∀ polled, y.pass ≠ .visiting polled) : x.MovedFrom y.startRotation :=
  ⟨by rw [h.frame]; rfl, fun q => by simpa [Arm.startRotation] using h.presence_of_pass hp q, by simp [Arm.startRotation],
    h.running⟩

theorem enumerated (h : x.MovedFrom y) (counter : Fin 16) : x.MovedFrom { y with phase := .running, counter := counter } :=
  ⟨by rw [h.frame], h.presence, h.unpolled, fun _ => rfl⟩

theorem rotated (h : x.MovedFrom y) (hp : ∀ polled, y.pass ≠ .visiting polled) (counter : Fin 16) :
    x.MovedFrom { y with counter := counter, pass := .between } :=
  ⟨by rw [h.frame], fun q => by simpa using h.presence_of_pass hp q, by simp, h.running⟩

/-- Which frame goes first does not depend on where the rotation stands (R25). -/
theorem frameBeforePoll (h : x.MovedFrom y) : y.frameBeforePoll = x.frameBeforePoll := by
  have assign (q : Fin 32) : (y.presence[q]).assign = (x.presence[q]).assign := by
    rw [h.presence q]; split <;> rfl
  have due : y.assignDue = x.assignDue := by simp only [Arm.assignDue, assign]
  rw [Arm.frameBeforePoll, Arm.frameBeforePoll, due, h.frame]

end Arm.MovedFrom

/-- One move of a pass that is at no visit, with everything but the arm as it stood, or the fault (R27, R38, R39). -/
theorem State.movePass_moved {s t : State} {i : ArmId} (ht : t = s.withArm i (t.arm i))
    (hx : (s.arm i).MovedFrom (t.arm i)) :
    (t.movePass i = s.withArm i ((t.movePass i).arm i) ∧ (s.arm i).MovedFrom ((t.movePass i).arm i)) ∨
      ((t.arm i).faultTest = true ∧ (t.arm i).phase = .running ∧ t.movePass i = t.faultArm i) := by
  have put (y : Arm) (hm : t.movePass i = t.withArm i y) (hy : (s.arm i).MovedFrom y) :
      t.movePass i = s.withArm i ((t.movePass i).arm i) ∧ (s.arm i).MovedFrom ((t.movePass i).arm i) := by
    rw [hm, State.withArm_arm_self]
    exact ⟨by rw [ht, State.withArm_withArm], hy⟩
  have noVisit {pass : Pass} (hp : (t.arm i).pass = pass) (h : ∀ polled, pass ≠ .visiting polled) :
      ∀ polled, (t.arm i).pass ≠ .visiting polled := hp ▸ h
  rcases t.movePass_cases i with hm | ⟨hp, hm⟩ | ⟨hp, -, hm⟩ | ⟨hp, -, hm⟩ | ⟨-, hr, hf, hm⟩ | ⟨hp, -, -, hm⟩
  · rw [hm]; exact .inl ⟨ht, hx⟩
  · exact .inl (put _ hm (hx.reach hp))
  · exact .inl (put _ hm (hx.startRotation (noVisit hp (by simp))))
  · exact .inl (put _ hm ((hx.enumerated 1).startRotation (noVisit hp (by simp))))
  · exact .inr ⟨hf, hr, hm⟩
  · exact .inl (put _ hm (hx.rotated (noVisit hp (by simp)) _))

/-- The state with one arm controller and the alerts replaced: what the arm's controller can change of the part. -/
def State.armAndAlerts (s : State) (i : ArmId) (x : Arm) (q : List AlertEntry) : State :=
  (s.withArm i x).withNotices { s.notices with alerts := q }

section ArmAndAlerts

variable (s : State) (i : ArmId) (x y : Arm) (q : List AlertEntry)

@[simp] theorem State.armAndAlerts_arm : (s.armAndAlerts i x q).arm i = x := by cases i <;> rfl
@[simp] theorem State.armAndAlerts_alerts : (s.armAndAlerts i x q).notices.alerts = q := rfl
@[simp] theorem State.armAndAlerts_tileMap : (s.armAndAlerts i x q).tileMap = s.tileMap := by cases i <;> rfl
@[simp] theorem State.armAndAlerts_rstnLow : (s.armAndAlerts i x q).rstnLow = s.rstnLow := by cases i <;> rfl
theorem State.armAndAlerts_self : s.armAndAlerts i (s.arm i) s.notices.alerts = s := by cases i <;> rfl
theorem State.armAndAlerts_withArm : (s.armAndAlerts i x q).withArm i y = s.armAndAlerts i y q := by cases i <;> rfl
theorem State.armAndAlerts_raise (al : Alert) : (s.armAndAlerts i x q).raise al = s.armAndAlerts i x (raiseAlert q al) := by
  cases i <;> rfl
theorem State.withArm_eq_armAndAlerts : s.withArm i x = s.armAndAlerts i x s.notices.alerts := by cases i <;> rfl

end ArmAndAlerts

/-- Wherever the rotation is brought to, nothing but the arm and the ALERT queue has changed (R39). -/
theorem State.movePasses_frame (s : State) (i : ArmId) (hold : Bool) (n : Nat) :
    s.movePasses i hold n =
      s.armAndAlerts i ((s.movePasses i hold n).arm i) (s.movePasses i hold n).notices.alerts := by
  have keeps := State.movePasses_induct (fun t => ∃ x q, t = s.armAndAlerts i x q) i ?_ hold n s
    ⟨_, _, (s.armAndAlerts_self i).symm⟩
  · obtain ⟨x, q, h⟩ := keeps
    rw [h, State.armAndAlerts_arm, State.armAndAlerts_alerts]
  rintro t ⟨x, q, ht⟩ - -
  have put (y : Arm) : ∃ z a, t.withArm i y = s.armAndAlerts i z a := ⟨y, q, by rw [ht, State.armAndAlerts_withArm]⟩
  rcases t.movePass_cases i with hm | ⟨-, hm⟩ | ⟨-, -, hm⟩ | ⟨-, -, hm⟩ | ⟨-, -, -, hm⟩ | ⟨-, -, -, hm⟩ <;> rw [hm]
  · exact ⟨x, q, ht⟩
  · exact put _
  · exact put _
  · exact put _
  · exact ⟨_, _, by rw [State.faultArm, ht, State.armAndAlerts_withArm, State.armAndAlerts_raise]⟩
  · exact put _

theorem State.bring_frame (s : State) (i : ArmId) :
    s.bring i = s.armAndAlerts i ((s.bring i).arm i) (s.bring i).notices.alerts :=
  s.movePasses_frame i _ 6

@[simp] theorem State.bring_rstnLow (s : State) (i : ArmId) : (s.bring i).rstnLow = s.rstnLow := by
  rw [State.bring_frame, State.armAndAlerts_rstnLow]

/-- Wherever a pass that is at no visit is brought to, the arm has moved and nothing else, or it is FAULTED. -/
theorem State.movePasses_moved (s : State) (i : ArmId) (h : ∀ polled, (s.arm i).pass ≠ .visiting polled) (hold : Bool)
    (n : Nat) :
    (s.movePasses i hold n = s.withArm i ((s.movePasses i hold n).arm i) ∧
      (s.arm i).MovedFrom ((s.movePasses i hold n).arm i)) ∨
    ∃ u : State, (s.movePasses i hold n).arm i = u.faultedArm i (u.arm i) := by
  refine State.movePasses_induct (fun t => (t = s.withArm i (t.arm i) ∧ (s.arm i).MovedFrom (t.arm i)) ∨
    ∃ u : State, t.arm i = u.faultedArm i (u.arm i)) i ?_ hold n s (.inl ⟨by simp, .refl h⟩)
  rintro t (⟨ht, hx⟩ | ⟨u, hu⟩) ha -
  · rcases State.movePass_moved ht hx with hm | ⟨-, -, hm⟩
    · exact .inl hm
    · exact .inr ⟨t, by rw [hm, State.faultArm_arm]⟩
  · rw [hu] at ha
    cases ha

/-- Bringing the rotation to where it stands once more moves nothing (R27). -/
theorem State.bring_bring (s : State) (i : ArmId) : (s.bring i).bring i = s.bring i := by
  by_cases hv : ∃ polled, (s.arm i).pass = .visiting polled
  · obtain ⟨polled, hv⟩ := hv
    have hs : s.bring i = s := s.movePasses_visiting i _ polled hv _
    rw [hs, hs]
  · have rest := s.movePasses_six_atRest i (s.arm i).frameBeforePoll
    rcases s.movePasses_moved i (fun polled hp => hv ⟨polled, hp⟩) (s.arm i).frameBeforePoll 6 with ⟨-, hx⟩ | ⟨u, hu⟩
    · have : ((s.bring i).arm i).frameBeforePoll = (s.arm i).frameBeforePoll := hx.frameBeforePoll
      unfold State.bring at this ⊢
      rw [this]
      exact rest 6
    · exact State.bring_stays _ i (.inl (by rw [State.bring, hu]; rfl))

/-- An arm whose rotation does not fault it has moved, and nothing else (R38). -/
theorem State.movePasses_kept (s : State) (i : ArmId) (h : ∀ polled, (s.arm i).pass ≠ .visiting polled)
    (hf : (s.arm i).faultTest = false ∨ (s.arm i).phase = .enumerating) (hold : Bool) (n : Nat) :
    s.movePasses i hold n = s.withArm i ((s.movePasses i hold n).arm i) ∧
      (s.arm i).MovedFrom ((s.movePasses i hold n).arm i) := by
  have started (x : Arm) : x.startRotation.faultTest = false := by simp [Arm.startRotation, Arm.faultTest]
  have reached (x : Arm) (hx : x.faultTest = false ∨ x.phase = .enumerating) :
      x.reach.faultTest = false ∨ x.reach.phase = .enumerating := by
    cases hn : x.nextStop with
    | none => rw [Arm.reach_of_none hn]; exact hx
    | some p => rw [Arm.reach_of_some hn]; exact hx
  have keeps := State.movePasses_induct
    (fun t => (t = s.withArm i (t.arm i) ∧ (s.arm i).MovedFrom (t.arm i)) ∧
      ((t.arm i).faultTest = false ∨ (t.arm i).phase = .enumerating)) i ?_ hold n s ⟨⟨by simp, .refl h⟩, hf⟩
  · exact keeps.1
  rintro t ⟨⟨ht, hx⟩, hq⟩ - -
  refine ⟨(State.movePass_moved ht hx).resolve_right ?_, ?_⟩
  · rintro ⟨h1, h2, -⟩
    simp [h1, h2] at hq
  · rcases t.movePass_cases i with hm | ⟨-, hm⟩ | ⟨-, -, hm⟩ | ⟨-, -, hm⟩ | ⟨-, h2, h1, -⟩ | ⟨-, -, h1, hm⟩
    · rw [hm]; exact hq
    · rw [hm, State.withArm_arm_self]; exact reached _ hq
    · rw [hm, State.withArm_arm_self]; exact .inl (started _)
    · rw [hm, State.withArm_arm_self]; exact .inl (started _)
    · simp [h1, h2] at hq
    · rw [hm, State.withArm_arm_self]; exact .inl h1

end Sys2Proof.Machine
end

section
/-! Where the rotation is brought to, case by case (R27, R28, R34, R38, R42). -/

namespace Sys2Proof.Machine

open Sys2Proof

section Positions

variable {s : State} {i : ArmId} {hold : Bool}

/-- The pass reaches the first position that it visits, and stays there (R27, R28). -/
theorem State.movePasses_reaches (ha : (s.arm i).active = true) (hl : (s.arm i).line.idle = true)
    (hr : (s.arm i).pass = .reaching) {p : Fin 32} (hle : (s.arm i).position ≤ p) (hp : s.visited i p)
    (hfirst : ∀ q, (s.arm i).position ≤ q → q < p → ¬ s.visited i q) (hh : hold = false ∨ p = (s.arm i).position)
    (n : Nat) : s.movePasses i hold (n + 1) = s.withArm i { s.arm i with
      presence := s.visitBegun i p, position := p, pass := .visiting false } := by
  have stop : (s.arm i).nextStop = some p := State.nextStop_eq_some.mpr ⟨⟨hle, hp⟩, fun q h1 h2 => hfirst q h2 h1⟩
  have pass : hold = false ∨ (s.arm i).passesOver = false := hh.imp_right fun h => by
    rw [← Bool.not_eq_true, State.passesOver_iff]
    exact fun hn => hn.2 (h ▸ hp)
  rw [State.movePasses_succ ha hl pass, State.movePass_reaching hr, Arm.reach_of_some stop]
  exact State.movePasses_visiting _ i hold false (by simp) n

/-- The arm of a state, its pass ended. -/
def State.passEnded (s : State) (i : ArmId) : State := s.withArm i { s.arm i with pass := .ended }

/-- With nothing left to visit, and no position that is passed over behind another frame, the pass ends (R27, R34). -/
theorem State.movePasses_nothingLeft (ha : (s.arm i).active = true) (hl : (s.arm i).line.idle = true)
    (hn : s.nothingLeft i) (hh : hold = false ∨ (s.arm i).pass = .ended) :
    ∃ n, s.movePasses i hold 6 = (s.passEnded i).movePasses i hold (n + 5) := by
  rcases hn with he | ⟨hr, hn⟩
  · refine ⟨1, ?_⟩
    have : s.passEnded i = s := by
      rw [State.passEnded, ← he]
      exact s.withArm_self i
    rw [this]
  · refine ⟨0, ?_⟩
    have pass := hh.resolve_right (by simp [hr])
    rw [State.movePasses_succ ha hl (.inl pass), State.movePass_reaching hr,
      Arm.reach_of_none (State.nextStop_eq_none.mpr hn)]
    rfl

/-- The pass waits between rotations (R27, R42). -/
theorem State.movePasses_waits (hp : (s.arm i).pass = .between) (hw : s.waitsToStart i) (n : Nat) :
    s.movePasses i hold n = s :=
  State.atRest_of_movePass (State.movePass_waiting hp ((s.waitsToStart_iff i).mp hw)) n

/-- When its wait is over the next rotation starts, with its counter (R27, R38, R42). -/
theorem State.movePasses_starts (hl : (s.arm i).line.idle = true) (hr : (s.arm i).phase = .running)
    (hp : (s.arm i).pass = .between) (hw : ¬ s.waitsToStart i) (n : Nat) :
    s.movePasses i hold (n + 1) =
      (s.rotating i (s.arm i).counter 0 .reaching (s.arm i).presence).movePasses i hold n := by
  rw [State.waitsToStart_iff, Bool.not_eq_false] at hw
  rw [State.movePasses_succ (by simp [Arm.active, hr]) hl (.inr (Arm.passesOver_of_pass (by simp [hp]))),
    State.movePass_between hp hw, State.rotating, Arm.startRotation, hr.symm]
  rfl

end Positions

/-! ### A rotation that has just started -/

section Started

variable (s : State) (i : ArmId) (counter : Fin 16)

/-- The arm at the start of a rotation (R27, R38). -/
def State.atStart (s : State) (i : ArmId) (counter : Fin 16) : State :=
  s.rotating i counter 0 .reaching (s.arm i).presence

@[simp] theorem State.rotating_arm (position : Fin 32) (pass : Pass) (presence : Vector PresenceRec 32) :
    (s.rotating i counter position pass presence).arm i = { s.arm i with
      phase := .running, counter := counter, position := position, pass := pass, rotationPolled := false,
      record := ⟨(List.finRange 32).any fun q => (s.presence i q).state == .present, false, false⟩,
      startMark := some ⟨false, false⟩, presence := presence } := s.withArm_arm_self i _

/-- Which positions a rotation visits stands while its counter and the presence records stand (R27). -/
theorem State.atStart_visited (q : Fin 32) : (s.atStart i counter).visited i q ↔ (s.inRotation i counter).visited i q := by
  simp [State.visited, State.presence, State.atStart, State.inRotation]

/-- A rotation that has just started, brought to where it stands (R27, R34, R38, R42). -/
theorem State.rotationBegun_atStart (hl : (s.arm i).line.idle = true) {hold : Bool} {held : Prop} (hh : hold = true ↔ held)
    (n : Nat) : s.rotationBegun ((s.atStart i counter).movePasses i hold (n + 3)) i counter held := by
  have ha : ((s.atStart i counter).arm i).active = true := by simp [State.atStart, Arm.active]
  have hl' : ((s.atStart i counter).arm i).line.idle = true := by simpa [State.atStart] using hl
  have hr : ((s.atStart i counter).arm i).pass = .reaching := by simp [State.atStart]
  have h0 : ((s.atStart i counter).arm i).position = 0 := by simp [State.atStart]
  refine ⟨fun p hp hfirst hheld => ?_, fun hheld hv => ?_, fun hheld hv next hnext => ?_⟩
  · have hold_or : hold = false ∨ p = ((s.atStart i counter).arm i).position := by
      rw [h0, ← Bool.not_eq_true, hh]
      exact hheld.imp_right Fin.ext
    rw [State.movePasses_reaches ha hl' hr (by rw [h0]; exact Fin.zero_le p) ((s.atStart_visited i counter p).mpr hp)
      (fun q _ hq => by rw [State.atStart_visited]; exact hfirst q hq) hold_or]
    simp [State.atStart, State.rotating, State.visitBegun, State.presence]
  · have pass : ((s.atStart i counter).arm i).passesOver = true := by
      rw [State.passesOver_iff, h0, State.atStart_visited]
      exact ⟨hr, hv⟩
    rw [hh.mpr hheld]
    exact State.atRest_held pass _
  · have none : ((s.atStart i counter).arm i).nextStop = none :=
      State.nextStop_eq_none.mpr fun q _ => by rw [State.atStart_visited]; exact hv q
    have hfalse : hold = false := by rwa [← Bool.not_eq_true, hh]
    have step : (counter + 1 : Fin 16) = next := Fin.ext (by rw [Fin.val_add]; exact hnext.symm)
    rw [State.movePasses_succ ha hl' (.inl hfalse), State.movePass_reaching hr, Arm.reach_of_none none,
      State.movePasses_succ (by simpa [Arm.active] using ha) (by simpa using hl') (.inl hfalse),
      State.movePass_rotated (by simp) (by simp [State.atStart]) (by simp [State.atStart, Arm.faultTest]),
      State.movePasses_waits (by simp) (by simp [State.waitsToStart, State.atStart])]
    simp [State.atStart, State.rotating, step]

end Started

/-! ### A pass that has ended -/

section Ended

variable {s : State} {i : ArmId} {hold : Bool}

@[simp] theorem State.passEnded_arm (s : State) (i : ArmId) : (s.passEnded i).arm i = { s.arm i with pass := .ended } :=
  s.withArm_arm_self i _

/-- What the fault leaves, from everything before it (R39). -/
def State.faulted (s : State) (i : ArmId) : State :=
  s.armAndAlerts i (s.faultedArm i (s.arm i)) (raiseAlert s.notices.alerts (.armFault i))

theorem State.passEnded_moves (ha : (s.arm i).active = true) (hl : (s.arm i).line.idle = true) (n : Nat) :
    (s.passEnded i).movePasses i hold (n + 1) = ((s.passEnded i).movePass i).movePasses i hold n :=
  State.movePasses_succ (by simpa [Arm.active] using ha) (by simpa using hl) (.inr (Arm.passesOver_of_pass (by simp))) n

/-- A silent rotation faults the arm where it ends (R38, R39). -/
theorem State.movePasses_faults (hr : (s.arm i).phase = .running) (hl : (s.arm i).line.idle = true)
    (hn : s.nothingLeft i) (hh : hold = false ∨ (s.arm i).pass = .ended) (hf : (s.arm i).faultTest = true) :
    s.movePasses i hold 6 = s.faulted i := by
  have ha : (s.arm i).active = true := by simp [Arm.active, hr]
  obtain ⟨n, h⟩ := State.movePasses_nothingLeft ha hl hn hh
  rw [h, State.passEnded_moves ha hl, State.movePass_silent (by simp) (by simpa using hr) (by simpa [Arm.faultTest] using hf),
    State.atRest_of_inactive (by rw [State.faultArm_arm]; rfl) _]
  cases i <;> rfl

/-- A rotation that ends without a fault is behind the next start's wait (R27). -/
theorem State.movePasses_ends (hr : (s.arm i).phase = .running) (hl : (s.arm i).line.idle = true)
    (hn : s.nothingLeft i) (hh : hold = false ∨ (s.arm i).pass = .ended) (hf : (s.arm i).faultTest = false) :
    ∃ n, s.movePasses i hold 6 =
      (s.withArm i { s.arm i with counter := (s.arm i).counter + 1, pass := .between }).movePasses i hold (n + 4) := by
  have ha : (s.arm i).active = true := by simp [Arm.active, hr]
  obtain ⟨n, h⟩ := State.movePasses_nothingLeft ha hl hn hh
  refine ⟨n, ?_⟩
  rw [h, State.passEnded_moves ha hl, State.movePass_rotated (by simp) (by simpa using hr) (by simpa [Arm.faultTest] using hf)]
  simp [State.passEnded]

/-- An enumeration that ends starts the first rotation (R34). -/
theorem State.movePasses_enumerated (hr : (s.arm i).phase = .enumerating) (hl : (s.arm i).line.idle = true)
    (hn : s.nothingLeft i) (hh : hold = false ∨ (s.arm i).pass = .ended) :
    ∃ n, s.movePasses i hold 6 = (s.atStart i 1).movePasses i hold (n + 4) := by
  have ha : (s.arm i).active = true := by simp [Arm.active, hr]
  obtain ⟨n, h⟩ := State.movePasses_nothingLeft ha hl hn hh
  refine ⟨n, ?_⟩
  rw [h, State.passEnded_moves ha hl, State.movePass_enumerated (by simp) (by simpa using hr)]
  simp [State.passEnded, State.atStart, State.rotating, Arm.startRotation, State.presence]

end Ended

end Sys2Proof.Machine
end

section
/-! The statements of the rotation (O53) and of the next frame's choice (O55, O56). -/

namespace Sys2Proof.Machine

open Sys2Proof

theorem State.alive_of_high {s : State} (h : s.rstnLow = false) : s.alive = true := by simp [State.alive, h]

section Rotation

variable {s : State} {i : ArmId}

/-- An arm that stands at a position to be passed over, at a visit, or in a wait stays there (R25, R27, R42). -/
theorem State.bring_of_rotationStands (h : s.rotationStands i) : s.bring i = s := by
  rcases h with ⟨polled, hv⟩ | ⟨-, hp, hw⟩ | ⟨hp, hf, hn⟩
  · exact s.movePasses_visiting i _ polled hv 6
  · exact State.movePasses_waits hp hw 6
  · exact s.bring_waits i ((s.frameGoesFirst_iff i).mp hf) ((s.passesOver_iff i).mpr ⟨hp, hn⟩)

theorem State.bring_eq_settle (h : ¬ s.frameGoesFirst i) : s.bring i = s.settle i := by
  rw [State.bring, State.settle, (s.not_frameGoesFirst_iff i).mp h]

/-- Where a visit begins: at once, but for a later position with another frame to go first (R25, R27, R28). -/
theorem State.brought_reaching (hl : s.pairFree i) (ha : (s.arm i).active = true) (hr : (s.arm i).pass = .reaching)
    {p : Fin 32} (hle : (s.arm i).position ≤ p) (hp : s.visited i p)
    (hfirst : ∀ q, (s.arm i).position ≤ q → q < p → ¬ s.visited i q) :
    ∃ t : State, t = s.withArm i { s.arm i with
        presence := s.visitBegun i p, position := p, pass := .visiting false } ∧
      s.settle i = t ∧ (¬ s.frameGoesFirst i ∨ p = (s.arm i).position → s.bring i = t) ∧
      (s.frameGoesFirst i → p ≠ (s.arm i).position → s.bring i = s) := by
  rw [State.pairFree_iff] at hl
  refine ⟨_, rfl, State.movePasses_reaches ha hl hr hle hp hfirst (.inl rfl) 5, fun h => ?_, fun hf hne => ?_⟩
  · exact State.movePasses_reaches ha hl hr hle hp hfirst (h.imp_left (s.not_frameGoesFirst_iff i).mp) 5
  · refine State.bring_of_rotationStands (.inr (.inr ⟨hr, hf, hfirst _ le_rfl ?_⟩))
    exact lt_of_le_of_ne hle hne.symm

/-- Between rotations, with the wait over, the next rotation begins with its counter (R27, R34, R42). -/
theorem State.begun_between (hl : s.pairFree i) (hr : (s.arm i).phase = .running) (hp : (s.arm i).pass = .between)
    (hw : ¬ s.waitsToStart i) :
    s.rotationBegun (s.settle i) i (s.arm i).counter False ∧
      s.rotationBegun (s.bring i) i (s.arm i).counter (s.frameGoesFirst i) := by
  rw [State.pairFree_iff] at hl
  rw [State.settle, State.bring, State.movePasses_starts hl hr hp hw, State.movePasses_starts hl hr hp hw]
  exact ⟨s.rotationBegun_atStart i _ hl (by simp) 2, s.rotationBegun_atStart i _ hl (s.frameGoesFirst_iff i).symm 2⟩

/-- The state with another start mark (R42). -/
def State.withMark (s : State) (i : ArmId) (mark : Option StartMark) : State :=
  s.withArm i { s.arm i with startMark := mark }

@[simp] theorem State.withMark_arm (s : State) (i : ArmId) (mark : Option StartMark) :
    (s.withMark i mark).arm i = { s.arm i with startMark := mark } := s.withArm_arm_self i _

/-- Between rotations, a mark with which the wait is over makes the next rotation begin, as if it stood from the beginning
(R27, R42). -/
theorem State.begun_withMark (hl : s.pairFree i) (hr : (s.arm i).phase = .running) (hp : (s.arm i).pass = .between)
    {mark : Option StartMark} (hw : ¬ (s.withMark i mark).waitsToStart i) :
    s.rotationBegun ((s.withMark i mark).bring i) i (s.arm i).counter (s.frameGoesFirst i) := by
  rw [State.pairFree_iff] at hl
  have start : (s.withMark i mark).rotating i (s.arm i).counter 0 .reaching (s.arm i).presence =
      s.atStart i (s.arm i).counter := by
    simp [State.withMark, State.rotating, State.atStart, State.presence]
  have hold : ((s.withMark i mark).arm i).frameBeforePoll = (s.arm i).frameBeforePoll := by
    rw [State.withMark_arm]; rfl
  have starts := State.movePasses_starts (hold := (s.arm i).frameBeforePoll) (n := 5) (by simpa using hl)
    (by simpa using hr) (by simpa using hp) hw
  simp only [State.withMark_arm] at starts
  rw [State.bring, hold, starts, start]
  exact s.rotationBegun_atStart i _ hl (s.frameGoesFirst_iff i).symm 2

/-- What the two ends of waits do on a RUNNING arm (R27, R42). -/
theorem exec_dozeWaitEnd (hs : s.rstnLow = false) (hr : (s.arm i).phase = .running) :
    exec (.dozeWaitEnd i) s = .next (if (s.arm i).pass = .between then
        (s.withMark i ((s.arm i).startMark.map fun m => ⟨true, m.emptyOver⟩)).bring i
      else s.withMark i ((s.arm i).startMark.map fun m => ⟨true, m.emptyOver⟩)) := by
  simp [exec, execDozeWaitEnd, State.waitOver, State.alive_of_high hs, hr, State.withMark]

theorem exec_emptyRotationWaitEnd (hs : s.rstnLow = false) (hr : (s.arm i).phase = .running) :
    exec (.emptyRotationWaitEnd i) s = .next (if (s.arm i).pass = .between then
        (s.withMark i ((s.arm i).startMark.map fun m => ⟨m.dozeOver, true⟩)).bring i
      else s.withMark i ((s.arm i).startMark.map fun m => ⟨m.dozeOver, true⟩)) := by
  simp [exec, execEmptyRotationWaitEnd, State.waitOver, State.alive_of_high hs, hr, State.withMark]

theorem exec_waitEnds_idle (hr : (s.arm i).phase ≠ .running) :
    exec (.dozeWaitEnd i) s = .next s ∧ exec (.emptyRotationWaitEnd i) s = .next s := by
  simp [exec, execDozeWaitEnd, execEmptyRotationWaitEnd, State.waitOver, hr]

/-- The rotation between two others: it waits, or the next one begins, at the end of the wait too (R27, R42). -/
theorem State.brought_between (hs : s.rstnLow = false) (hl : s.pairFree i) (hr : (s.arm i).phase = .running)
    (hp : (s.arm i).pass = .between) :
    (s.waitsToStart i → s.settle i = s) ∧
    (¬ s.waitsToStart i → s.rotationBegun (s.settle i) i (s.arm i).counter False ∧
      s.rotationBegun (s.bring i) i (s.arm i).counter (s.frameGoesFirst i)) ∧
    ((s.arm i).doze = true → (s.arm i).startMark ≠ none →
      ∃ t, exec (.dozeWaitEnd i) s = .next t ∧ s.rotationBegun t i (s.arm i).counter (s.frameGoesFirst i)) ∧
    ((s.arm i).doze = false → (s.arm i).startMark ≠ none →
      ∃ t, exec (.emptyRotationWaitEnd i) s = .next t ∧
        s.rotationBegun t i (s.arm i).counter (s.frameGoesFirst i)) := by
  refine ⟨fun hw => State.movePasses_waits hp hw 6, State.begun_between hl hr hp, fun hd hm => ?_, fun hd hm => ?_⟩
  · refine ⟨_, exec_dozeWaitEnd hs hr, ?_⟩
    rw [if_pos hp]
    refine State.begun_withMark hl hr hp ?_
    obtain ⟨m, hm⟩ := Option.ne_none_iff_exists'.mp hm
    simp [State.waitsToStart, hd, hm]
  · refine ⟨_, exec_emptyRotationWaitEnd hs hr, ?_⟩
    rw [if_pos hp]
    refine State.begun_withMark hl hr hp ?_
    obtain ⟨m, hm⟩ := Option.ne_none_iff_exists'.mp hm
    simp [State.waitsToStart, hd, hm]

theorem Arm.faultTest_eq_false_iff (x : Arm) : x.faultTest = false ↔
    ¬ (x.record.presentAtStart = true ∧ x.record.completed = true ∧ x.record.answered = false) := by
  rw [← Bool.not_eq_true]
  simp [Arm.faultTest, and_assoc]

/-- A rotation that ends without a fault: its counter advances, and the next one waits or begins (R27, R38). -/
theorem State.brought_rotated (hl : s.pairFree i) (hr : (s.arm i).phase = .running) (hn : s.nothingLeft i)
    (hf : (s.arm i).faultTest = false) {next : Fin 16} (hnext : next.val = ((s.arm i).counter.val + 1) % 16) {hold : Bool}
    {held : Prop} (hh : hold = true ↔ held) (hor : ¬ held ∨ (s.arm i).pass = .ended) :
    (s.waitsToStart i → s.movePasses i hold 6 = s.withArm i { s.arm i with counter := next, pass := .between }) ∧
      (¬ s.waitsToStart i → s.rotationBegun (s.movePasses i hold 6) i next held) := by
  rw [State.pairFree_iff] at hl
  have step : (s.arm i).counter + 1 = next := Fin.ext (by rw [Fin.val_add]; exact hnext.symm)
  obtain ⟨n, h⟩ := State.movePasses_ends (hold := hold) hr hl hn (hor.imp_left fun h => by rwa [← Bool.not_eq_true, hh]) hf
  rw [h, step]
  refine ⟨fun hw => State.movePasses_waits (by simp) (by simpa [State.waitsToStart] using hw) _, fun hw => ?_⟩
  rw [State.movePasses_starts (by simpa using hl) (by simpa using hr) (by simp) (by simpa [State.waitsToStart] using hw)]
  have start : (s.withArm i { s.arm i with counter := next, pass := .between }).rotating i next 0 .reaching
      (s.arm i).presence = s.atStart i next := by
    simp [State.rotating, State.atStart, State.presence]
  simp only [State.withArm_arm_self]
  rw [start]
  exact s.rotationBegun_atStart i next hl hh n

/-- An enumeration that ends: the first rotation begins with counter 1 (R34). -/
theorem State.brought_enumerated (hl : s.pairFree i) (hr : (s.arm i).phase = .enumerating) (hn : s.nothingLeft i)
    {hold : Bool} {held : Prop} (hh : hold = true ↔ held) (hor : ¬ held ∨ (s.arm i).pass = .ended) :
    s.rotationBegun (s.movePasses i hold 6) i 1 held := by
  rw [State.pairFree_iff] at hl
  obtain ⟨n, h⟩ :=
    State.movePasses_enumerated (hold := hold) hr hl hn (hor.imp_left fun h => by rwa [← Bool.not_eq_true, hh])
  rw [h]
  exact s.rotationBegun_atStart i 1 hl hh (n + 1)

/-- With no effect entry waiting, the opportunity of an effect frame only brings the rotation to where it stands (R25). -/
theorem exec_effectFrameSend_empty (hs : s.rstnLow = false) (he : (s.arm i).effects = []) :
    exec (.effectFrameSend i) s = .next (s.bring i) := by
  have empty : ((s.bring i).arm i).effects = [] := by
    by_cases hv : ∃ polled, (s.arm i).pass = .visiting polled
    · rw [State.bring_of_rotationStands (.inl hv)]; exact he
    · rcases s.movePasses_moved i (fun polled hp => hv ⟨polled, hp⟩) (s.arm i).frameBeforePoll 6 with ⟨-, hx⟩ | ⟨u, hu⟩
      · rw [State.bring, hx.frame]; exact he
      · rw [State.bring, hu]; rfl
  have noEffect (e : EffectEntry) : ((s.bring i).arm i).nextFrame (s.bring i).engine.highMark ≠ some (.effect e) := by
    unfold Arm.nextFrame
    rw [empty]
    split
    · cases ((s.bring i).arm i).assignDue with
      | some p => simp
      | none => cases ((s.bring i).arm i).pollReady (s.bring i).engine.highMark <;> simp
    · simp
  simp only [exec, execEffectFrameSend, State.alive_of_high hs, if_true]

end Rotation

/-- Settles O53: clause by clause, each by where the pass stands. -/
theorem rotationReachesTheNextPosition : Obligations.RotationReachesTheNextPosition := by
  intro s i hs hl
  refine ⟨fun p ha hr hle hp hfirst => State.brought_reaching hl ha hr hle hp hfirst,
    State.bring_of_rotationStands, fun polled hv => s.movePasses_visiting i false polled hv 6, State.bring_eq_settle,
    fun he _ => exec_effectFrameSend_empty hs he, State.brought_between hs hl, ?_, ?_, ?_, exec_waitEnds_idle⟩
  · rintro hr hn hf next waiting hnext rfl
    have hf := (Arm.faultTest_eq_false_iff _).mpr hf
    obtain ⟨settled, settledBegun⟩ := State.brought_rotated hl hr hn hf hnext (hold := false) (held := False) (by simp)
      (.inl id)
    have brought := State.brought_rotated hl hr hn hf hnext (s.frameGoesFirst_iff i).symm
    exact ⟨fun hw => ⟨settled hw, fun hor => (brought hor).1 hw⟩,
      fun hw => ⟨settledBegun hw, fun hor => (brought hor).2 hw⟩⟩
  · exact fun hr hn => ⟨State.brought_enumerated hl hr hn (by simp) (.inl id),
      State.brought_enumerated hl hr hn (s.frameGoesFirst_iff i).symm⟩
  · rintro hr dozed emptied rfl rfl
    rw [exec_dozeWaitEnd hs hr, exec_emptyRotationWaitEnd hs hr]
    exact ⟨fun hp => ⟨by rw [if_pos hp]; rfl, by rw [if_pos hp]; rfl⟩,
      fun hp => ⟨by rw [if_neg hp]; rfl, by rw [if_neg hp]; rfl⟩⟩

end Sys2Proof.Machine
end

section
/-! The ends of frames and the choice of the next one (R10, R24 to R27, R56, R57). -/

namespace Sys2Proof.Machine

open Sys2Proof

/-- A count that stops at its limit, as a number (R37). -/
theorem saturate_eq (limit n : Nat) : saturate limit n = min (n + 1) (max n limit) := by
  unfold saturate
  split <;> omega

section Ends

variable {s : State} {i : ArmId}

theorem exec_effectFrameEnd (hs : s.rstnLow = false) {frame : List Byte} {held : Bool}
    (hl : (s.arm i).line = .effect frame held) :
    exec (.effectFrameEnd i) s = .next ((s.withArm i { s.arm i with
      line := .free, effects := if held = true then (s.arm i).effects.tail else (s.arm i).effects }).settle i) := by
  simp [exec, execEffectFrameEnd, State.alive_of_high hs, hl]

/-- The arm at the end of an ASSIGN: its flag stands only where one more is owed (R10). -/
theorem Arm.assignSent_eq (x : Arm) (p : Fin 32) (again : Bool) : x.assignSent p again =
    { x with line := .free, presence := x.presence.set p { x.presence[p] with
      assign := again && (x.presence[p]).assign } } := by
  cases again with
  | false => simp [Arm.assignSent, Arm.withPresence]
  | true =>
    have kept : ({ x.presence[p] with assign := true && (x.presence[p]).assign } : PresenceRec) = x.presence[p] := by
      rw [Bool.true_and]
    rw [kept]
    simp [Arm.assignSent]

theorem exec_assignEnd (hs : s.rstnLow = false) {p : Fin 32} {frame : List Byte} {again : Bool}
    (hl : (s.arm i).line = .assign p frame again) :
    exec (.assignEnd i) s = .next ((s.withArm i ((s.arm i).assignSent p again)).settle i) := by
  simp [exec, execAssignEnd, State.alive_of_high hs, hl]

theorem exec_effectFrameEnd_none (h : ∀ frame held, (s.arm i).line ≠ .effect frame held) :
    exec (.effectFrameEnd i) s = .next s := by
  cases hl : (s.arm i).line <;> simp_all [exec, execEffectFrameEnd]

theorem exec_assignEnd_none (h : ∀ p frame again, (s.arm i).line ≠ .assign p frame again) :
    exec (.assignEnd i) s = .next s := by
  cases hl : (s.arm i).line <;> simp_all [exec, execAssignEnd]

/-- An answer, or the close of the window, of a poll that a TILE-WRITE ended (R7). -/
theorem exec_lapsed (hs : s.rstnLow = false) (hl : (s.arm i).line = .lapsed) (bytes : List LineByte) :
    exec (.pollAnswer i bytes) s = .next ((s.withArm i { s.arm i with line := .free }).bring i) ∧
      exec (.replyWindowClose i) s = .next ((s.withArm i { s.arm i with line := .free }).bring i) := by
  simp [exec, execPollAnswer, execReplyWindowClose, State.alive_of_high hs, hl, State.received]

theorem exec_noWindow (hl : (s.arm i).line ≠ .lapsed) (hp : ∀ poll frame, (s.arm i).line ≠ .poll poll frame)
    (bytes : List LineByte) :
    exec (.pollAnswer i bytes) s = .next s ∧ exec (.replyWindowClose i) s = .next s := by
  cases h : (s.arm i).line <;> simp_all [exec, execPollAnswer, execReplyWindowClose]

theorem exec_strayFrame (hs : s.rstnLow = false) (ha : (s.arm i).active = true) (hl : s.pairFree i)
    (bytes : List LineByte) :
    exec (.strayFrame i bytes) s = .next ((s.withArm i { s.arm i with
      line := .free, stray := min ((s.arm i).stray + 1) (max (s.arm i).stray 255) }).bring i) := by
  simp [exec, execStrayFrame, State.alive_of_high hs, ha, (s.pairFree_iff i).mp hl, State.received, Arm.countError,
    saturate_eq]

theorem exec_strayFrame_lost (h : (s.arm i).active = false ∨ ¬ s.pairFree i) (bytes : List LineByte) :
    exec (.strayFrame i bytes) s = .next s := by
  rw [State.pairFree_iff, Bool.not_eq_true] at h
  rcases h with h | h <;> simp [exec, execStrayFrame, h]

theorem State.bring_visiting {polled : Bool} (h : (s.arm i).pass = .visiting polled) : s.bring i = s :=
  s.movePasses_visiting i _ polled h 6

theorem State.settle_visiting {polled : Bool} (h : (s.arm i).pass = .visiting polled) : s.settle i = s :=
  s.movePasses_visiting i false polled h 6

end Ends

/-- Settles O56: each end, by what the line holds; behind it the rotation stands at its visit. -/
theorem frameEndsAndStrayFrames : Obligations.FrameEndsAndStrayFrames := by
  intro s i bytes hs
  refine ⟨?_, ?_, ?_, fun h => exec_strayFrame_lost h bytes, ?_, fun hl hp => exec_noWindow hl hp bytes,
    exec_effectFrameEnd_none, exec_assignEnd_none⟩
  · rintro frame held u hl rfl
    refine ⟨exec_effectFrameEnd hs hl, fun polled hv => ?_⟩
    rw [exec_effectFrameEnd hs hl, State.settle_visiting (polled := polled) (by simpa using hv)]
  · rintro p frame again u hl rfl
    rw [exec_assignEnd hs hl, Arm.assignSent_eq]
    exact ⟨rfl, fun polled hv => congrArg _ (State.settle_visiting (polled := polled) (by simpa using hv))⟩
  · rintro ha hl u rfl
    refine ⟨exec_strayFrame hs ha hl bytes, fun polled hv => ?_⟩
    rw [exec_strayFrame hs ha hl bytes, State.bring_visiting (polled := polled) (by simpa using hv)]
  · rintro hl u rfl
    obtain ⟨answer, close⟩ := exec_lapsed hs hl bytes
    refine ⟨answer, close, fun polled hv => ?_⟩
    rw [answer, close, State.bring_visiting (polled := polled) (by simpa using hv)]
    exact ⟨rfl, rfl⟩

/-! ### The choice of the next frame -/

section Choice

variable {s : State} {i : ArmId}

/-- An ASSIGN goes before every other frame (R25). -/
theorem Arm.nextFrame_assign {x : Arm} (ha : x.active = true) (hl : x.line.idle = true) {p : Fin 32}
    (h : x.assignDue = some p) (highMark : Nat) : x.nextFrame highMark = some (.assign p) := by
  simp [Arm.nextFrame, ha, hl, h]

/-- The head of the effect queue goes when it is its turn, or when no poll is ready (R25). -/
theorem Arm.nextFrame_effect {x : Arm} (ha : x.active = true) (hl : x.line.idle = true) (h : x.assignDue = none)
    {e : EffectEntry} {rest : List EffectEntry} (he : x.effects = e :: rest) {highMark : Nat}
    (ht : x.alternation = .poll ∨ x.pollReady highMark = false) : x.nextFrame highMark = some (.effect e) := by
  cases hr : x.pollReady highMark with
  | false => simp [Arm.nextFrame, ha, hl, h, he, hr]
  | true => simp [Arm.nextFrame, ha, hl, h, he, hr, ht.resolve_right (by simp [hr])]

/-- A ready poll goes when no effect entry waits or it is the poll's turn (R25, R26). -/
theorem Arm.nextFrame_poll {x : Arm} (ha : x.active = true) (hl : x.line.idle = true) (h : x.assignDue = none)
    (ht : x.effects = [] ∨ x.alternation = .effect) {highMark : Nat} (hr : x.pollReady highMark = true) :
    x.nextFrame highMark = some .poll := by
  cases he : x.effects with
  | nil => simp [Arm.nextFrame, ha, hl, h, he, hr]
  | cons e rest => simp [Arm.nextFrame, ha, hl, h, he, hr, ht.resolve_left (by simp [he])]

theorem Arm.nextFrame_nothing {x : Arm} (h : x.assignDue = none) (he : x.effects = []) {highMark : Nat}
    (hr : x.pollReady highMark = false) : x.nextFrame highMark = none := by
  simp [Arm.nextFrame, h, he, hr]

theorem Arm.nextFrame_inactive {x : Arm} (h : x.active = false) (highMark : Nat) : x.nextFrame highMark = none := by
  simp [Arm.nextFrame, h]

/-- A poll is ready during a visit with the FIFO below the high mark (R26). -/
theorem Arm.pollReady_iff {x : Arm} (ha : x.active = true) (highMark : Nat) :
    x.pollReady highMark = true ↔ (∃ polled, x.pass = .visiting polled) ∧ x.fifo.length < highMark := by
  cases hp : x.pass <;> simp [Arm.pollReady, ha, hp]

/-- The frame that a state's arm sends now. -/
def State.choice (s : State) (i : ArmId) : Option FrameChoice := (s.arm i).nextFrame s.engine.highMark

/-- POLL_SEND sends the poll that is chosen where the rotation is brought to, and nothing else (R25). -/
theorem exec_pollSend (hs : s.rstnLow = false) {t : State} (ht : s.bring i = t) :
    (t.choice i = some .poll → exec (.pollSend i) s = .next (t.withArm i (t.arm i).sendPoll)) ∧
    (t.choice i ≠ some .poll → exec (.pollSend i) s = .next t) := by
  subst ht
  unfold State.choice
  constructor <;> intro h <;> simp only [exec, execPollSend, State.alive_of_high hs, if_true, h]

/-- EFFECT_FRAME_SEND sends the effect frame that is chosen where the rotation is brought to, and nothing else (R25). -/
theorem exec_effectFrameSend (hs : s.rstnLow = false) {t : State} (ht : s.bring i = t) :
    (∀ e, t.choice i = some (.effect e) → exec (.effectFrameSend i) s = .next (t.withArm i ((t.arm i).sendEffect e))) ∧
    ((∀ e, t.choice i ≠ some (.effect e)) → exec (.effectFrameSend i) s = .next t) := by
  subst ht
  unfold State.choice
  constructor
  · intro e h
    simp only [exec, execEffectFrameSend, State.alive_of_high hs, if_true, h]
  · intro h
    simp only [exec, execEffectFrameSend, State.alive_of_high hs, if_true]

/-- ASSIGN_SEND sends the ASSIGN that is chosen where the rotation is brought to, and nothing else (R25). -/
theorem exec_assignSend (hs : s.rstnLow = false) {t : State} (ht : s.bring i = t) :
    (∀ p, t.choice i = some (.assign p) →
      exec (.assignSend i) s = .next (t.withArm i ((t.arm i).sendAssign p (t.mapRec i p).zone))) ∧
    ((∀ p, t.choice i ≠ some (.assign p)) → exec (.assignSend i) s = .next t) := by
  subst ht
  unfold State.choice
  constructor
  · intro e h
    simp only [exec, execAssignSend, State.alive_of_high hs, if_true, h]
  · intro h
    simp only [exec, execAssignSend, State.alive_of_high hs, if_true]

/-- A frame command does what it does where the rotation is brought to (R27; log 7). -/
theorem exec_send_bring (hs : s.rstnLow = false) : exec (.pollSend i) s = exec (.pollSend i) (s.bring i) ∧
    exec (.effectFrameSend i) s = exec (.effectFrameSend i) (s.bring i) ∧
    exec (.assignSend i) s = exec (.assignSend i) (s.bring i) := by
  have ht : (s.bring i).alive = true := State.alive_of_high (by rw [s.bring_rstnLow]; exact hs)
  simp only [exec, execPollSend, execEffectFrameSend, execAssignSend, State.alive_of_high hs, ht, if_true, s.bring_bring, and_self]

/-! ### The bytes of the frames (R179, R180) -/

theorem armFrame_nil (head address : Byte) : armFrame head address [] = [head, address, head ^^^ address ^^^ 0x5A] := by
  simp [armFrame, armCheck]

theorem armFrame_one (head address b : Byte) :
    armFrame head address [b] = [head, address, b, head ^^^ address ^^^ b ^^^ 0x5A] := by
  simp [armFrame, armCheck]

/-- A POLL, byte by byte, its head as a sum (R180). -/
theorem pollFrame_eq (p : Fin 32) {greeting ack : Bool} {isGreeting isAck : Prop} [Decidable isGreeting] [Decidable isAck]
    (hg : greeting = true ↔ isGreeting) (ha : ack = true ↔ isAck) {head : Byte}
    (h : head = 0x10 + (if isGreeting then 8 else 0) + (if isAck then 1 else 0)) :
    pollFrame p greeting ack = [head, byteOf p.val, head ^^^ byteOf p.val ^^^ 0x5A] := by
  have sum : (0x10 ||| (if greeting then 0x08 else 0) ||| (if ack then 0x01 else 0) : Byte) = head := by
    simp only [h, ← hg, ← ha]
    cases greeting <;> cases ack <;> rfl
  rw [pollFrame, armFrame_nil, sum]

/-- The effect frame of an entry, byte by byte (R179, R180). -/
theorem effectFrame_eq (e : EffectEntry) : effectFrame e = match e.effect with
    | .light pattern =>
      [0x30, effectAddrCode e.addr, pattern, 0x30 ^^^ effectAddrCode e.addr ^^^ pattern ^^^ 0x5A]
    | .sound clip => [0x40, effectAddrCode e.addr, clip, 0x40 ^^^ effectAddrCode e.addr ^^^ clip ^^^ 0x5A]
    | .dark => [0x50, effectAddrCode e.addr, 0x50 ^^^ effectAddrCode e.addr ^^^ 0x5A] := by
  unfold effectFrame
  cases e.effect <;> simp only [armFrame_nil, armFrame_one]

theorem effectAddrCode_eq {addr : EffectAddr} {code : Byte} (h : match addr with
      | .tile p => code = byteOf p.val
      | .zone z => code = byteOf (32 + z.val)
      | .all => code = 63) : effectAddrCode addr = code := by
  cases addr <;> exact h.symm

/-- The lowest position owed an ASSIGN (R10, R25). -/
theorem State.assignDue_of_lowest {p : Fin 32} (hp : (s.presence i p).assign = true)
    (hlow : ∀ q, q < p → (s.presence i q).assign = false) : (s.arm i).assignDue = some p :=
  Arm.assignDue_eq_some.mpr ⟨hp, hlow⟩

theorem State.assignDue_of_none (h : ∀ q, (s.presence i q).assign = false) : (s.arm i).assignDue = none :=
  Arm.assignDue_eq_none.mpr h

/-- On a free pair, where the rotation stands: the lowest position owed an ASSIGN has it sent, and no other frame goes
(R10, R25). -/
theorem exec_sends_assign (hs : s.rstnLow = false) (ha : (s.arm i).active = true) (hl : s.pairFree i)
    (hb : s.bring i = s) {p : Fin 32} (hp : (s.presence i p).assign = true)
    (hlow : ∀ q, q < p → (s.presence i q).assign = false) :
    exec (.assignSend i) s = .next (s.withArm i { s.arm i with
      line := .assign p (assignFrame p (s.mapRec i p).zone) false }) ∧
    exec (.effectFrameSend i) s = .next s ∧ exec (.pollSend i) s = .next s := by
  have choice : s.choice i = some (.assign p) :=
    Arm.nextFrame_assign ha ((s.pairFree_iff i).mp hl) (State.assignDue_of_lowest hp hlow) _
  refine ⟨(exec_assignSend hs hb).1 p choice, (exec_effectFrameSend hs hb).2 ?_, (exec_pollSend hs hb).2 ?_⟩ <;>
    simp [choice]

/-- With no ASSIGN owed, the head of the effect queue goes when it is its turn or no poll is ready, and no other frame
goes (R25, R56). -/
theorem exec_sends_effect (hs : s.rstnLow = false) (ha : (s.arm i).active = true) (hl : s.pairFree i)
    (hb : s.bring i = s) (hn : ∀ q, (s.presence i q).assign = false) {e : EffectEntry} {rest : List EffectEntry}
    (he : (s.arm i).effects = e :: rest)
    (ht : (s.arm i).alternation = .poll ∨ (s.arm i).pollReady s.engine.highMark = false) :
    exec (.effectFrameSend i) s = .next (s.withArm i { s.arm i with
      line := .effect (effectFrame e) true, alternation := .effect }) ∧
    exec (.pollSend i) s = .next s ∧ exec (.assignSend i) s = .next s := by
  have choice : s.choice i = some (.effect e) :=
    Arm.nextFrame_effect ha ((s.pairFree_iff i).mp hl) (State.assignDue_of_none hn) he ht
  refine ⟨(exec_effectFrameSend hs hb).1 e choice, (exec_pollSend hs hb).2 ?_, (exec_assignSend hs hb).2 ?_⟩ <;>
    simp [choice]

end Choice

/-- Settles O55: the rotation stands, so each frame command acts on the one choice of R25. -/
theorem frameOpportunitySendsOneFrame : Obligations.FrameOpportunitySendsOneFrame := by
  intro s i hs ha hl
  refine ⟨?_, fun hstands ready hready => ?_⟩
  · obtain ⟨poll, effect, assign⟩ := exec_send_bring (i := i) hs
    simpa using ⟨poll, effect, assign⟩
  have hb := State.bring_of_rotationStands hstands
  have pollReady : (s.arm i).pollReady s.engine.highMark = true ↔ ready := by rw [hready, Arm.pollReady_iff ha]
  have notReady : (s.arm i).pollReady s.engine.highMark = false ↔ ¬ ready := by rw [← pollReady, Bool.not_eq_true]
  refine ⟨fun p hp hlow => ?_, fun hn => ?_⟩
  · have sends := exec_sends_assign hs ha hl hb hp hlow
    rwa [assignFrame, armFrame_one] at sends
  have due := State.assignDue_of_none hn
  have noAssign (p : Fin 32) : s.choice i ≠ some (.assign p) := by
    unfold State.choice Arm.nextFrame
    rw [due]
    simp only []
    repeat' split
    all_goals simp
  refine ⟨(exec_assignSend hs hb).2 noAssign, fun e rest he ht => ?_, fun ht hr => ?_, fun he hr => ?_⟩
  · obtain ⟨effect, poll, -⟩ := exec_sends_effect hs ha hl hb hn he (ht.imp_right notReady.mpr)
    refine ⟨poll, fun addr haddr => ?_⟩
    rw [effect, effectFrame_eq, effectAddrCode_eq haddr] <;> rfl
  · have choice : s.choice i = some .poll :=
      Arm.nextFrame_poll ha ((s.pairFree_iff i).mp hl) due ht (pollReady.mpr hr)
    refine ⟨(exec_effectFrameSend hs hb).2 (by simp [choice]), ?_⟩
    rintro p head rfl hhead
    unfold State.presence at hhead
    rw [(exec_pollSend hs hb).1 choice, Arm.sendPoll, pollFrame_eq _ beq_iff_eq Iff.rfl hhead]
    rfl
  · have choice : s.choice i = none := Arm.nextFrame_nothing due he (notReady.mpr hr)
    exact ⟨(exec_effectFrameSend hs hb).2 (by simp [choice]), (exec_pollSend hs hb).2 (by simp [choice])⟩

end Sys2Proof.Machine
end

section
/-! The end of a silent rotation (R38, R39). -/

namespace Sys2Proof.Machine

open Sys2Proof

section Silent

variable {s : State} {i : ArmId}

/-- Nothing is left to visit, and the fault test succeeds (R38). -/
structure State.Silent (s : State) (i : ArmId) : Prop where
  running : (s.arm i).phase = .running
  nothingLeft : s.nothingLeft i
  faultTest : (s.arm i).faultTest = true

theorem State.Silent.active (h : s.Silent i) : (s.arm i).active = true := by simp [Arm.active, h.running]

/-- On a free pair, where no position is passed over behind another frame, a silent rotation faults the arm (R39). -/
theorem State.Silent.faults (h : s.Silent i) (hl : s.pairFree i) :
    s.settle i = s.faulted i ∧ (¬ s.frameGoesFirst i ∨ (s.arm i).pass = .ended → s.bring i = s.faulted i) := by
  have hl := (s.pairFree_iff i).mp hl
  exact ⟨State.movePasses_faults h.running hl h.nothingLeft (.inl rfl) h.faultTest, fun hor =>
    State.movePasses_faults h.running hl h.nothingLeft (hor.imp_left (s.not_frameGoesFirst_iff i).mp) h.faultTest⟩

/-- Behind another frame that goes first, a silent rotation stands (R27). -/
theorem State.Silent.stands (h : s.Silent i) (hr : (s.arm i).pass = .reaching) (hf : s.frameGoesFirst i) :
    s.bring i = s := by
  rcases h.nothingLeft with he | ⟨-, hn⟩
  · rw [hr] at he; cases he
  · exact State.bring_of_rotationStands (.inr (.inr ⟨hr, hf, hn _ le_rfl⟩))

/-- A line, the effect entries and the ASSIGNs owed do not make a rotation silent, and the fault clears them (R38, R39). -/
theorem State.Silent.withLine (h : s.Silent i) (line : Line) (alternation : Alternation) (effects : List EffectEntry)
    (presence : Vector PresenceRec 32) (hp : ∀ q : Fin 32, (presence[q]).state = (s.presence i q).state) :
    let t := s.withArm i { s.arm i with
      line := line, alternation := alternation, effects := effects, presence := presence }
    t.Silent i ∧ t.faulted i = s.faulted i := by
  intro t
  have visited (q : Fin 32) : t.visited i q ↔ s.visited i q := by
    simp only [State.visited, t, State.withArm_arm_self, State.presence] at hp ⊢
    rw [hp]
  have arm : t.arm i = { s.arm i with
      line := line, alternation := alternation, effects := effects, presence := presence } := s.withArm_arm_self i _
  refine ⟨⟨by rw [arm]; exact h.running, ?_, by rw [arm]; exact h.faultTest⟩, by cases i <;> rfl⟩
  simpa only [State.nothingLeft, arm, visited] using h.nothingLeft

/-- A silent rotation ends behind the effect frame under way (R27, R39). -/
theorem State.Silent.behind_effect (hs : s.rstnLow = false) (h : s.Silent i) {frame : List Byte} {held : Bool}
    (hl : (s.arm i).line = .effect frame held) : exec (.effectFrameEnd i) s = .next (s.faulted i) := by
  obtain ⟨silent, same⟩ := h.withLine .free (s.arm i).alternation
    (if held = true then (s.arm i).effects.tail else (s.arm i).effects) (s.arm i).presence fun q => rfl
  rw [exec_effectFrameEnd hs hl, ← same]
  exact congrArg _ (silent.faults (.inl (by simp))).1

/-- A silent rotation ends behind the ASSIGN under way (R27, R39). -/
theorem State.Silent.behind_assign (hs : s.rstnLow = false) (h : s.Silent i) {p : Fin 32} {frame : List Byte}
    {again : Bool} (hl : (s.arm i).line = .assign p frame again) : exec (.assignEnd i) s = .next (s.faulted i) := by
  obtain ⟨silent, same⟩ := h.withLine .free (s.arm i).alternation (s.arm i).effects
    ((s.arm i).presence.set p { (s.arm i).presence[p] with assign := again && ((s.arm i).presence[p]).assign })
    fun q => by
      by_cases hq : p = q
      · subst hq; simp [State.presence]
      · simp [State.presence, Fin.val_ne_of_ne hq]
  rw [exec_assignEnd hs hl, Arm.assignSent_eq, ← same]
  exact congrArg _ (silent.faults (.inl (by simp))).1

/-- At the next frame opportunity with no frame to go first, and at the end of a window left open, a silent rotation is
over (R27, R39). -/
theorem State.Silent.at_opportunity (hs : s.rstnLow = false) (h : s.Silent i) (hl : s.pairFree i)
    (hor : ¬ s.frameGoesFirst i ∨ (s.arm i).pass = .ended) :
    exec (.pollSend i) s = .next (s.faulted i) ∧ exec (.effectFrameSend i) s = .next (s.faulted i) ∧
      exec (.assignSend i) s = .next (s.faulted i) ∧ (∀ bytes, (s.arm i).line = .lapsed →
        exec (.pollAnswer i bytes) s = .next (s.faulted i) ∧ exec (.replyWindowClose i) s = .next (s.faulted i)) := by
  have hb := (h.faults hl).2 hor
  have none : (s.faulted i).choice i = none :=
    Arm.nextFrame_inactive (by rw [State.faulted, State.armAndAlerts_arm]; rfl) _
  refine ⟨(exec_pollSend hs hb).2 (by simp [none]), (exec_effectFrameSend hs hb).2 (by simp [none]),
    (exec_assignSend hs hb).2 (by simp [none]), fun bytes hlapsed => ?_⟩
  obtain ⟨silent, same⟩ := h.withLine .free (s.arm i).alternation (s.arm i).effects (s.arm i).presence fun q => rfl
  obtain ⟨answer, close⟩ := exec_lapsed hs hlapsed bytes
  have freed := (silent.faults (.inl (by simp))).2 (hor.imp (fun hn => ?_) fun he => by simpa using he)
  · rw [answer, close, ← same, ← freed]
    exact ⟨rfl, rfl⟩
  · simpa [State.frameGoesFirst, State.presence] using hn

/-- A silent rotation waits behind the lowest position owed an ASSIGN, and ends at the end of that frame (R10, R25, R27). -/
theorem State.Silent.sends_assign (hs : s.rstnLow = false) (h : s.Silent i) (hl : s.pairFree i)
    (hr : (s.arm i).pass = .reaching) {q : Fin 32} (hq : (s.presence i q).assign = true)
    (hlow : ∀ q', q' < q → (s.presence i q').assign = false) :
    exec (.pollSend i) s = .next s ∧ exec (.effectFrameSend i) s = .next s ∧
      ∃ v, exec (.assignSend i) s = .next v ∧
        v = s.withArm i { s.arm i with line := .assign q (assignFrame q (s.mapRec i q).zone) false } ∧
        exec (.assignEnd i) v = .next (s.faulted i) := by
  have hb := h.stands hr (.inl ⟨q, hq⟩)
  obtain ⟨assign, effect, poll⟩ := exec_sends_assign hs h.active hl hb hq hlow
  refine ⟨poll, effect, _, assign, rfl, ?_⟩
  obtain ⟨silent, same⟩ := h.withLine (.assign q (assignFrame q (s.mapRec i q).zone) false) (s.arm i).alternation
    (s.arm i).effects (s.arm i).presence fun q => rfl
  rw [← same]
  exact silent.behind_assign (by simpa using hs) (by rw [State.withArm_arm_self])

/-- A silent rotation waits behind the head of the effect queue, and ends at the end of that frame (R25, R27, R56). -/
theorem State.Silent.sends_effect (hs : s.rstnLow = false) (h : s.Silent i) (hl : s.pairFree i)
    (hr : (s.arm i).pass = .reaching) {e : EffectEntry} {rest : List EffectEntry}
    (hn : ∀ q, (s.presence i q).assign = false) (he : (s.arm i).effects = e :: rest) (ht : (s.arm i).alternation = .poll) :
    exec (.pollSend i) s = .next s ∧ exec (.assignSend i) s = .next s ∧
      ∃ v, exec (.effectFrameSend i) s = .next v ∧
        v = s.withArm i { s.arm i with line := .effect (effectFrame e) true, alternation := .effect } ∧
        exec (.effectFrameEnd i) v = .next (s.faulted i) := by
  have hb := h.stands hr (.inr ⟨by simp [he], ht⟩)
  obtain ⟨effect, poll, assign⟩ := exec_sends_effect hs h.active hl hb hn he (.inl ht)
  refine ⟨poll, assign, _, effect, rfl, ?_⟩
  obtain ⟨silent, same⟩ := h.withLine (.effect (effectFrame e) true) .effect (s.arm i).effects (s.arm i).presence
    fun q => rfl
  rw [← same]
  exact silent.behind_effect (by simpa using hs) (by rw [State.withArm_arm_self])

end Silent

end Sys2Proof.Machine
end

section
/-! The end of a visit, and where the rotation is brought to behind it (R27, R28, R38, R39). -/

namespace Sys2Proof.Machine

open Sys2Proof

/-- `t` is `s` with the visit to position `p` over, the pair free, and this rotation record and presence record there; what
the choice of the next position and the next frame looks at stands otherwise (R25, R27, R28). -/
structure State.LeftAt (s t : State) (i : ArmId) (p : Fin 32) (record : RotationRecord) (after : PresenceRec) : Prop where
  phase : (t.arm i).phase = (s.arm i).phase
  counter : (t.arm i).counter = (s.arm i).counter
  effects : (t.arm i).effects = (s.arm i).effects
  alternation : (t.arm i).alternation = (s.arm i).alternation
  line : (t.arm i).line = .free
  record : (t.arm i).record = record
  presence : (t.arm i).presence = (s.arm i).presence.set p after
  position : p.val < 31 → (t.arm i).position.val = p.val + 1
  pass : (t.arm i).pass = if p.val < 31 then .reaching else .ended

namespace State.LeftAt

variable {s t : State} {i : ArmId} {p : Fin 32} {record : RotationRecord} {after : PresenceRec}

theorem presence_self (h : s.LeftAt t i p record after) : t.presence i p = after := by
  simp [State.presence, h.presence]

theorem presence_ne (h : s.LeftAt t i p record after) {q : Fin 32} (hq : q ≠ p) : t.presence i q = s.presence i q := by
  simp [State.presence, h.presence, Fin.val_ne_of_ne hq.symm]

theorem pairFree (h : s.LeftAt t i p record after) : t.pairFree i := .inl h.line

theorem pass_below (h : s.LeftAt t i p record after) (hp : p.val < 31) : (t.arm i).pass = .reaching := by
  rw [h.pass, if_pos hp]

theorem no_visit (h : s.LeftAt t i p record after) (polled : Bool) : (t.arm i).pass ≠ .visiting polled := by
  rw [h.pass]
  split <;> simp

theorem visited_iff (h : s.LeftAt t i p record after) {q : Fin 32} (hq : p < q) : t.visited i q ↔ s.visited i q := by
  rw [State.visited, State.visited, h.presence_ne hq.ne', h.phase, h.counter]

theorem position_le (h : s.LeftAt t i p record after) (hp : p.val < 31) {q : Fin 32} : (t.arm i).position ≤ q ↔ p < q := by
  rw [Fin.le_def, Fin.lt_def, h.position hp]
  omega

theorem frameGoesFirst_iff (h : s.LeftAt t i p record after) : t.frameGoesFirst i ↔ s.firstBehind i p after.assign := by
  have owed : (∃ q, (t.presence i q).assign = true) ↔
      after.assign = true ∨ ∃ q, q ≠ p ∧ (s.presence i q).assign = true := by
    constructor
    · rintro ⟨q, hq⟩
      by_cases hqp : q = p
      · subst hqp; rw [h.presence_self] at hq; exact .inl hq
      · rw [h.presence_ne hqp] at hq; exact .inr ⟨q, hqp, hq⟩
    · rintro (ha | ⟨q, hqp, hq⟩)
      · exact ⟨p, by rw [h.presence_self]; exact ha⟩
      · exact ⟨q, by rw [h.presence_ne hqp]; exact hq⟩
  rw [State.frameGoesFirst, State.firstBehind, owed, h.effects, h.alternation, or_assoc]

theorem nothingLeft_iff (h : s.LeftAt t i p record after) : t.nothingLeft i ↔ ∀ q, p < q → ¬ s.visited i q := by
  by_cases hp : p.val < 31
  · simp only [State.nothingLeft, h.pass, if_pos hp, reduceCtorEq, false_or, true_and, h.position_le hp]
    exact forall₂_congr fun q hq => not_congr (h.visited_iff hq)
  · simp only [State.nothingLeft, h.pass, if_neg hp, true_or, true_iff]
    intro q hq
    omega

/-- A visit whose end is to fault the arm faults it there (R38, R39). -/
theorem faults (h : s.LeftAt t i p record after) (ha : (s.arm i).active = true)
    (hg : ¬ s.goesOnBehind i p record after.assign) : t.bring i = t.faulted i := by
  simp only [State.goesOnBehind, not_or, not_not, not_exists] at hg
  obtain ⟨phase, ⟨h1, h2, h3⟩, visited, first⟩ := hg
  have silent : t.Silent i :=
    ⟨h.phase.trans (((Arm.active_iff _).mp ha).resolve_left phase),
      h.nothingLeft_iff.mpr fun q hq hv => visited q ⟨hq, hv⟩,
      by simp [Arm.faultTest, h.record, h1, h2, h3]⟩
  refine (silent.faults h.pairFree).2 ?_
  by_cases hp : p.val < 31
  · exact .inl (by rw [h.frameGoesFirst_iff]; exact fun hf => first ⟨hp, hf⟩)
  · exact .inr (by rw [h.pass, if_neg hp])

/-- With a frame to go first and the next position not visited, the rotation waits there for that frame (R25, R27). -/
theorem waits (h : s.LeftAt t i p record after) (hp : p.val < 31) (hf : s.firstBehind i p after.assign)
    (hn : ∀ q, q.val = p.val + 1 → ¬ s.visited i q) : t.bring i = t := by
  refine State.bring_of_rotationStands (.inr (.inr ⟨h.pass_below hp, h.frameGoesFirst_iff.mpr hf, ?_⟩))
  rw [h.visited_iff (by rw [← h.position_le hp])]
  exact hn _ (h.position hp)

/-- The next position is visited: its visit begins, whatever frame goes first (R27, R28). -/
theorem next (h : s.LeftAt t i p record after) (ha : (s.arm i).active = true) {q : Fin 32} (hq : q.val = p.val + 1)
    (hv : s.visited i q) : t.bring i = t.withArm i { t.arm i with
      presence := t.visitBegun i q, position := q, pass := .visiting false } := by
  have hp : p.val < 31 := by omega
  have at_q : q = (t.arm i).position := Fin.ext (hq.trans (h.position hp).symm)
  obtain ⟨u, rfl, -, brought, -⟩ := State.brought_reaching (p := q) h.pairFree (by simpa [Arm.active, h.phase] using ha)
    (h.pass_below hp) at_q.ge ((h.visited_iff (by omega)).mpr hv) fun q' h1 h2 => by omega
  exact brought (.inr at_q)

/-- A visit whose end does not fault the arm: the arm has moved on, and nothing else has changed (R27, R28, R38). -/
theorem goesOn (h : s.LeftAt t i p record after) (ha : (s.arm i).active = true)
    (hg : s.goesOnBehind i p record after.assign) :
    t.bring i = t.withArm i ((t.bring i).arm i) ∧ (t.arm i).MovedFrom ((t.bring i).arm i) := by
  have stays (hb : t.bring i = t) : t.bring i = t.withArm i ((t.bring i).arm i) ∧
      (t.arm i).MovedFrom ((t.bring i).arm i) := by
    rw [hb]
    exact ⟨by simp, .refl h.no_visit⟩
  have active : (t.arm i).active = true := by simpa [Arm.active, h.phase] using ha
  have moves (hphase : ((t.bring i).arm i).phase = (t.arm i).phase) : t.bring i = t.withArm i ((t.bring i).arm i) ∧
      (t.arm i).MovedFrom ((t.bring i).arm i) := by
    refine (t.movePasses_moved i h.no_visit _ 6).resolve_right ?_
    rintro ⟨u, hu⟩
    rw [State.bring, hu] at hphase
    simp [Arm.active, ← hphase, State.faultedArm] at active
  have later (hq : ∃ q, p < q ∧ s.visited i q) : t.bring i = t.withArm i ((t.bring i).arm i) ∧
      (t.arm i).MovedFrom ((t.bring i).arm i) := by
    obtain ⟨q, hlt, hq⟩ := hq
    have hp : p.val < 31 := by omega
    obtain ⟨first, hfirst⟩ : ∃ first, (t.arm i).nextStop = some first := by
      rw [← Option.ne_none_iff_exists', Ne, State.nextStop_eq_none]
      exact fun hn => hn q ((h.position_le hp).mpr hlt) ((h.visited_iff hlt).mpr hq)
    obtain ⟨⟨hle, hv⟩, hlow⟩ := State.nextStop_eq_some.mp hfirst
    obtain ⟨u, rfl, -, brought, waits⟩ := State.brought_reaching h.pairFree active (h.pass_below hp) hle hv
      fun q' h1 h2 => hlow q' h2 h1
    by_cases hw : t.frameGoesFirst i ∧ first ≠ (t.arm i).position
    · exact stays (waits hw.1 hw.2)
    · refine moves ?_
      rw [brought (by tauto), State.withArm_arm_self]
  rcases hg with he | hf | hq | ⟨hp, hf⟩
  · exact t.movePasses_kept i h.no_visit (.inr (h.phase.trans he)) _ 6
  · refine t.movePasses_kept i h.no_visit (.inl ?_) _ 6
    rw [Arm.faultTest_eq_false_iff, h.record]
    exact hf
  · exact later hq
  · by_cases hn : ∀ q, q.val = p.val + 1 → ¬ s.visited i q
    · exact stays (h.waits hp hf hn)
    · push Not at hn
      obtain ⟨q, hq, hv⟩ := hn
      exact later ⟨q, by omega, hv⟩

/-- What the statements say of the end of a visit behind which the arm goes on (R27, R28). -/
theorem visitOver (h : s.LeftAt t i p record after) (ha : (s.arm i).active = true)
    (hg : s.goesOnBehind i p record after.assign) : s.visitOver (t.bring i) i p := by
  refine ⟨(h.goesOn ha hg).2.unpolled, fun q hq hv => ?_⟩
  rw [h.next ha hq hv, State.withArm_arm_self]
  exact ⟨rfl, rfl⟩

theorem waitsBehind (h : s.LeftAt t i p record after) : s.waitsBehind (t.bring i) i p record after.assign := by
  intro hp hf hn
  rw [h.waits hp hf fun q hq => hn q (by omega)]
  exact ⟨h.phase, h.pass_below hp, h.position hp, h.record⟩

theorem othersKept (h : s.LeftAt t i p record after) (ha : (s.arm i).active = true)
    (hg : s.goesOnBehind i p record after.assign) : s.othersKept (t.bring i) i p := by
  intro q hq
  rw [← h.presence_ne hq]
  exact (h.goesOn ha hg).2.presence q

theorem presence_kept (h : s.LeftAt t i p record after) (ha : (s.arm i).active = true)
    (hg : s.goesOnBehind i p record after.assign) :
    (t.bring i).presence i p = after ∨ (t.bring i).presence i p = { after with taken := 0 } := by
  have := (h.goesOn ha hg).2.presence p
  rw [← State.presence, ← State.presence, h.presence_self] at this
  split at this
  · exact .inr this
  · exact .inl this

end State.LeftAt

/-- The arm `x`, with this line, record and presence record, whose visit to position `p` is over (R28). -/
theorem State.leftBehind_leftAt {s v : State} {i : ArmId} {p : Fin 32} {x : Arm} {record : RotationRecord}
    {after : PresenceRec} (hphase : x.phase = (s.arm i).phase) (hcounter : x.counter = (s.arm i).counter)
    (heffects : x.effects = (s.arm i).effects) (halt : x.alternation = (s.arm i).alternation) (hrecord : x.record = record)
    (hpresence : x.presence = (s.arm i).presence.set p after) : s.LeftAt (v.leftBehind i p x) i p record after := by
  have arm : (v.leftBehind i p x).arm i = { x with
      line := .free, position := if h : p.val + 1 < 32 then ⟨p.val + 1, h⟩ else p,
      pass := if p.val < 31 then .reaching else .ended } := v.withArm_arm_self i _
  exact ⟨by rw [arm]; exact hphase, by rw [arm]; exact hcounter, by rw [arm]; exact heffects, by rw [arm]; exact halt,
    by rw [arm], by rw [arm]; exact hrecord, by rw [arm]; exact hpresence,
    fun hp => by rw [arm]; simp [show p.val + 1 < 32 by omega], by rw [arm]⟩

end Sys2Proof.Machine
end

section
/-! The ends of polls: what an outcome does to the presence record, and where the visit goes from there (R13, R14, R22,
R32, R38). -/

namespace Sys2Proof.Machine

open Sys2Proof

/-! ### What the rotation does not look at -/

/-- A change `f` of the state, through `g` at the arm, that the rotation neither looks at nor touches. -/
structure State.Unseen (i : ArmId) (f : State → State) (g : Arm → Arm) : Prop where
  arm : ∀ t : State, (f t).arm i = g (t.arm i)
  withArm : ∀ (t : State) (x : Arm), f (t.withArm i x) = (f t).withArm i (g x)
  faultArm : ∀ t : State, f (t.faultArm i) = (f t).faultArm i
  reach : ∀ x : Arm, g x.reach = (g x).reach
  startRotation : ∀ x : Arm, g x.startRotation = (g x).startRotation
  enumerated : ∀ x : Arm, g { x with phase := .running, counter := 1 } = { g x with phase := .running, counter := 1 }
  rotated : ∀ x : Arm, g { x with counter := x.counter + 1, pass := .between } =
    { g x with counter := (g x).counter + 1, pass := .between }
  tests : ∀ x : Arm, (g x).pass = x.pass ∧ (g x).phase = x.phase ∧ (g x).line = x.line ∧ (g x).mayStart = x.mayStart ∧
    (g x).faultTest = x.faultTest ∧ (g x).passesOver = x.passesOver ∧ (g x).frameBeforePoll = x.frameBeforePoll

namespace State.Unseen

variable {i : ArmId} {f : State → State} {g : Arm → Arm}

theorem movePass (h : State.Unseen i f g) (t : State) : f (t.movePass i) = (f t).movePass i := by
  obtain ⟨pass, phase, -, mayStart, faultTest, -, -⟩ := h.tests (t.arm i)
  rw [← h.arm] at pass phase mayStart faultTest
  cases hp : (t.arm i).pass with
  | visiting polled => rw [State.movePass_visiting hp, State.movePass_visiting (pass.trans hp)]
  | reaching => rw [State.movePass_reaching hp, State.movePass_reaching (pass.trans hp), h.withArm, h.reach, h.arm]
  | between =>
    cases hm : (t.arm i).mayStart with
    | true =>
      rw [State.movePass_between hp hm, State.movePass_between (pass.trans hp) (mayStart.trans hm), h.withArm,
        h.startRotation, h.arm]
    | false => rw [State.movePass_waiting hp hm, State.movePass_waiting (pass.trans hp) (mayStart.trans hm)]
  | ended =>
    cases hr : (t.arm i).phase with
    | off | faulted => simp [State.movePass, hp, hr, pass, phase]
    | enumerating =>
      rw [State.movePass_enumerated hp hr, State.movePass_enumerated (pass.trans hp) (phase.trans hr), h.withArm,
        h.startRotation, h.enumerated, h.arm]
    | running =>
      cases hf : (t.arm i).faultTest with
      | true =>
        rw [State.movePass_silent hp hr hf, State.movePass_silent (pass.trans hp) (phase.trans hr) (faultTest.trans hf),
          h.faultArm]
      | false =>
        rw [State.movePass_rotated hp hr hf, State.movePass_rotated (pass.trans hp) (phase.trans hr) (faultTest.trans hf),
          h.withArm, h.rotated, h.arm]

theorem movePasses (h : State.Unseen i f g) (hold : Bool) (n : Nat) (t : State) :
    f (t.movePasses i hold n) = (f t).movePasses i hold n := by
  induction n generalizing t with
  | zero => rfl
  | succ n ih =>
    obtain ⟨-, phase, line, -, -, passesOver, -⟩ := h.tests (t.arm i)
    have active : (g (t.arm i)).active = (t.arm i).active := by simp only [Arm.active, phase]
    simp only [State.movePasses, h.arm, active, line, passesOver]
    split
    · rw [ih, h.movePass]
    · rfl

theorem bring (h : State.Unseen i f g) (t : State) : f (t.bring i) = (f t).bring i := by
  obtain ⟨-, -, -, -, -, -, frameBeforePoll⟩ := h.tests (t.arm i)
  rw [State.bring, State.bring, h.movePasses, h.arm, frameBeforePoll]

end State.Unseen

/-- One count more on the error of an answer, at its arm (R23, R37). -/
def State.counted (s : State) (i : ArmId) (e : LineError) : State := s.withArm i ((s.arm i).countError e)

theorem Arm.countError_reach (x : Arm) (e : LineError) : (x.reach).countError e = (x.countError e).reach := by
  have stop : (x.countError e).nextStop = x.nextStop := by cases e <;> rfl
  cases h : x.nextStop with
  | none =>
    rw [Arm.reach_of_none h, Arm.reach_of_none (stop.trans h)]
    cases e <;> rfl
  | some p =>
    rw [Arm.reach_of_some h, Arm.reach_of_some (stop.trans h)]
    cases e <;> rfl

/-- The arm at the end of a visit, field by field (R28). -/
theorem Arm.leave_eq (x : Arm) : x.leave = { x with
    position := if h : x.position.val + 1 < 32 then ⟨x.position.val + 1, h⟩ else x.position,
    pass := if x.position.val + 1 < 32 then .reaching else .ended } := by
  unfold Arm.leave
  split <;> simp [*]

theorem Arm.countError_leave (x : Arm) (e : LineError) : (x.leave).countError e = (x.countError e).leave := by
  rw [Arm.leave_eq, Arm.leave_eq]
  cases e <;> rfl

/-- The line error counts are nothing to the rotation (R37). -/
theorem State.unseen_counted (i : ArmId) (e : LineError) :
    State.Unseen i (fun s => s.counted i e) (fun x => x.countError e) where
  arm t := t.withArm_arm_self i _
  withArm t x := by simp [State.counted]
  faultArm t := by cases i <;> cases e <;> rfl
  reach x := x.countError_reach e
  startRotation x := by cases e <;> rfl
  enumerated x := by cases e <;> rfl
  rotated x := by cases e <;> rfl
  tests x := by cases e <;> exact ⟨rfl, rfl, rfl, rfl, rfl, rfl, rfl⟩

/-! ### The end of a poll -/

/-- The arm at the end of a poll of position `p`: the pair free, with this rotation record, and this presence record at the
position (R22, R38). -/
def State.pollOver (s : State) (i : ArmId) (p : Fin 32) (record : RotationRecord) (after : PresenceRec) : Arm :=
  { s.arm i with line := .free, record := record, presence := (s.arm i).presence.set p after }

section Outcomes

variable {s : State} {i : ArmId}

/-- Where the visit goes on, the arm stands at it (R28). -/
theorem State.afterOutcome_stays {t : State} {polled : Bool} (h : (t.arm i).pass = .visiting polled) :
    State.afterOutcome i (t, true) = t := State.bring_visiting h

/-- Where the visit ends, the rotation is brought to where it stands behind it (R27, R28). -/
theorem State.afterOutcome_leaves (s : State) {x : Arm} (h : x.line = .free) (q : List AlertEntry) :
    State.afterOutcome i (s.armAndAlerts i x q, false) =
      ((s.withNotices { s.notices with alerts := q }).leftBehind i x.position x).bring i := by
  rw [← State.withArm_leave _ i x h]
  simp only [State.afterOutcome, State.armAndAlerts_arm, State.armAndAlerts_withArm]
  cases i <;> rfl

theorem State.afterOutcome_counted (t : State) (goesOn : Bool) (e : LineError) :
    State.afterOutcome i (t.counted i e, goesOn) = (State.afterOutcome i (t, goesOn)).counted i e := by
  unfold State.afterOutcome
  cases goesOn with
  | true => exact ((State.unseen_counted i e).bring t).symm
  | false =>
    have leave : (t.counted i e).withArm i ((t.counted i e).arm i).leave = (t.withArm i (t.arm i).leave).counted i e := by
      simp [State.counted, Arm.countError_leave]
    simp only [Bool.false_eq_true, if_false, leave]
    exact ((State.unseen_counted i e).bring _).symm

/-- A miss at the end of a poll: the presence record takes it, and TILE-LOST is raised where it loses the tile
(R13, R14, R22). -/
theorem State.answerMissed_eq (s : State) (i : ArmId) (poll : Poll) :
    (s.endPoll i poll false).answerMissed i poll.position =
      (s.armAndAlerts i (s.pollOver i poll.position ((s.arm i).record.afterPoll poll.fromPresent false)
          (s.presence i poll.position).missed)
        (if (s.presence i poll.position).missLost then raiseAlert s.notices.alerts (.tileLost i poll.position)
          else s.notices.alerts), (s.presence i poll.position).missContinues) := by
  unfold State.answerMissed State.endPoll
  simp only [State.withArm_arm_self, State.withArm_withArm]
  change (State.raiseOpt _ (if (s.presence i poll.position).missLost then _ else _), _) = _
  cases (s.presence i poll.position).missLost <;> cases i <;> rfl

theorem State.answerMissed_counted (t : State) (i : ArmId) (p : Fin 32) (e : LineError) :
    (t.counted i e).answerMissed i p = ((t.answerMissed i p).1.counted i e, (t.answerMissed i p).2) := by
  have arm : (t.counted i e).arm i = (t.arm i).countError e := t.withArm_arm_self i _
  have presence : ((t.arm i).countError e).presence = (t.arm i).presence := by cases e <;> rfl
  unfold State.answerMissed
  simp only [arm, presence]
  generalize (if ((t.arm i).presence[p]).missLost then some (Alert.tileLost i p) else none) = al
  cases al <;> cases i <;> cases e <;> rfl

/-- The state behind a poll that ended in a miss: the position's record has taken it, and the visit goes on or ends
(R13, R14, R22, R28). -/
def State.behindMiss (s : State) (i : ArmId) (poll : Poll) : State :=
  State.afterOutcome i (s.armAndAlerts i
    (s.pollOver i poll.position ((s.arm i).record.afterPoll poll.fromPresent false) (s.presence i poll.position).missed)
    (if (s.presence i poll.position).missLost then raiseAlert s.notices.alerts (.tileLost i poll.position)
      else s.notices.alerts), (s.presence i poll.position).missContinues)

/-- The close of a window is a miss (R22). -/
theorem exec_replyWindowClose (hs : s.rstnLow = false) {poll : Poll} {frame : List Byte}
    (hl : (s.arm i).line = .poll poll frame) : exec (.replyWindowClose i) s = .next (s.behindMiss i poll) := by
  rw [State.behindMiss, ← State.answerMissed_eq]
  simp only [exec, execReplyWindowClose, State.alive_of_high hs, hl]

/-- An answer that fails a check is a miss too, with one count more on its error (R23, R37). -/
theorem exec_failedAnswer (hs : s.rstnLow = false) {poll : Poll} {frame : List Byte}
    (hl : (s.arm i).line = .poll poll frame) {bytes : List LineByte} {e : LineError}
    (he : judgeAnswer poll bytes = .error e) :
    exec (.pollAnswer i bytes) s = .next ((s.behindMiss i poll).counted i e) := by
  rw [State.behindMiss, ← State.answerMissed_eq, ← State.afterOutcome_counted, ← State.answerMissed_counted]
  simp only [exec, execPollAnswer, State.alive_of_high hs, hl, State.pollAnswered, he]
  rfl

end Outcomes

/-! ### Misses -/

/-- A miss below the third, and one at which the count stops (R12 to R14). -/
theorem PresenceRec.missed_eq {r after : PresenceRec} (hne : r.state ≠ .excluded) (hm : r.misses ≤ 3)
    (hlow : r.misses < 2 → after = { r with misses := r.misses + 1 })
    (hlost : 2 ≤ r.misses → r.state = .unknown ∨ r.state = .absent → after = { r with state := .absent, misses := 3 })
    (hmismatch : 2 ≤ r.misses → r.state = .mismatch → after = { r with misses := 3 })
    (hpresent : 2 ≤ r.misses → r.state = .present →
      after = { r with state := .absent, misses := 3, assign := false, taken := 0 }) : r.missed = after := by
  by_cases h2 : r.misses < 2
  · have count : saturate 3 r.misses = r.misses + 1 := saturate_lt _ _ (by omega)
    have below : r.misses + 1 ≠ 3 := by omega
    rw [hlow h2]
    cases hst : r.state <;> simp_all [PresenceRec.missed, Config.missLimit]
  · have count : saturate 3 r.misses = 3 := by rw [saturate_eq]; omega
    cases hst : r.state with
    | unknown => simp [PresenceRec.missed, hst, count, Config.missLimit, hlost (by omega) (.inl hst)]
    | present => simp [PresenceRec.missed, hst, count, Config.missLimit, hpresent (by omega) hst]
    | absent => simp [PresenceRec.missed, hst, count, Config.missLimit, hlost (by omega) (.inr hst)]
    | mismatch => simp [PresenceRec.missed, hst, count, Config.missLimit, hmismatch (by omega) hst]
    | excluded => exact absurd hst hne

/-- The visit goes on behind a miss exactly at a position that is still UNKNOWN (R12, R32). -/
theorem PresenceRec.missContinues_iff (r : PresenceRec) :
    r.missContinues = true ↔ r.state = .unknown ∧ saturate 3 r.misses ≠ 3 := by
  unfold PresenceRec.missContinues PresenceRec.missed
  by_cases h : saturate 3 r.misses = 3 <;> cases hst : r.state <;> simp [Config.missLimit, h, hst]

/-- A miss loses a PRESENT tile exactly where the count reaches three (R14). -/
theorem PresenceRec.missLost_iff (r : PresenceRec) :
    r.missLost = true ↔ r.state = .present ∧ saturate 3 r.misses = 3 := by
  unfold PresenceRec.missLost PresenceRec.missed
  by_cases h : saturate 3 r.misses = 3 <;> cases hst : r.state <;> simp [Config.missLimit, h, hst]

/-- A miss never makes an ASSIGN owed (R14). -/
theorem PresenceRec.assign_of_missed {r : PresenceRec} (h : r.missed.assign = true) : r.assign = true := by
  unfold PresenceRec.missed at h
  cases hst : r.state <;> simp only [hst] at h
  case present => split at h <;> simp_all
  all_goals exact h

/-- Of a count within its limit, a miss makes the third exactly from two on (R13). -/
theorem saturate_three {n : Nat} (h : n ≤ 3) : saturate 3 n = 3 ↔ 2 ≤ n := by
  rw [saturate_eq]
  omega

end Sys2Proof.Machine
end

section
/-! The ends of visits that leave everything but the position's own record as it stood, and misses (R13, R14, R27, R28,
R38, R39). -/

namespace Sys2Proof.Machine

open Sys2Proof

/-- What the moves of a pass leave as it stands (R27, R28). -/
theorem Arm.MovedFrom.kept {x y : Arm} (h : x.MovedFrom y) :
    y.line = x.line ∧ y.fifo = x.fifo ∧ y.effects = x.effects ∧ y.framing = x.framing ∧ y.check = x.check ∧
      y.shape = x.shape ∧ y.stray = x.stray ∧ y.doze = x.doze := by
  rw [h.frame]
  exact ⟨rfl, rfl, rfl, rfl, rfl, rfl, rfl, rfl⟩

@[simp] theorem State.leftBehind_arm (s : State) (i : ArmId) (p : Fin 32) (x : Arm) : (s.leftBehind i p x).arm i =
    { x with
      line := .free, position := if h : p.val + 1 < 32 then ⟨p.val + 1, h⟩ else p,
      pass := if p.val < 31 then .reaching else .ended } := s.withArm_arm_self i _

@[simp] theorem State.leftBehind_notices (s : State) (i : ArmId) (p : Fin 32) (x : Arm) :
    (s.leftBehind i p x).notices = s.notices := s.withArm_notices i _

section VisitEnds

variable {s t : State} {i : ArmId} {p : Fin 32} {record : RotationRecord} {after : PresenceRec} {heard : List AlertEntry}

/-- The state right behind the visit to a position, these alerts raised (R28). -/
def State.visitLeft (s : State) (i : ArmId) (p : Fin 32) (record : RotationRecord) (after : PresenceRec)
    (heard : List AlertEntry) : State :=
  (s.withNotices { s.notices with alerts := heard }).leftBehind i p (s.pollOver i p record after)

theorem State.visitLeft_leftAt (heard : List AlertEntry) : s.LeftAt (s.visitLeft i p record after heard) i p record after :=
  State.leftBehind_leftAt rfl rfl rfl rfl rfl rfl

/-- Whatever comes behind the visit, only the arm and the ALERT queue change. -/
theorem State.visitLeft_frame : (s.visitLeft i p record after heard).bring i =
    s.armAndAlerts i (((s.visitLeft i p record after heard).bring i).arm i)
      ((s.visitLeft i p record after heard).bring i).notices.alerts := by
  conv_lhs => rw [State.bring_frame]
  cases i <;> rfl

/-- Where the end of the visit does not fault the arm (R27, R28). -/
theorem State.visitLeft_goesOn (ha : (s.arm i).active = true) (hg : s.goesOnBehind i p record after.assign)
    (ht : t = (s.visitLeft i p record after heard).bring i) :
    t.notices.alerts = heard ∧ (t.arm i).line = .free ∧ (t.arm i).fifo = (s.arm i).fifo ∧
      (t.arm i).effects = (s.arm i).effects ∧ (t.arm i).framing = (s.arm i).framing ∧ (t.arm i).check = (s.arm i).check ∧
      (t.arm i).shape = (s.arm i).shape ∧ (t.arm i).stray = (s.arm i).stray ∧ (t.arm i).doze = (s.arm i).doze := by
  obtain ⟨heq, moved⟩ := (State.visitLeft_leftAt heard).goesOn ha hg
  obtain ⟨line, fifo, effects, framing, check, shape, stray, doze⟩ := moved.kept
  subst ht
  refine ⟨?_, ?_⟩
  · rw [heq]
    simp [State.visitLeft]
  · rw [line, fifo, effects, framing, check, shape, stray, doze, State.visitLeft, State.leftBehind_arm]
    exact ⟨rfl, rfl, rfl, rfl, rfl, rfl, rfl, rfl⟩

/-- Where it does (R38, R39). -/
theorem State.visitLeft_faults (ha : (s.arm i).active = true) (hg : ¬ s.goesOnBehind i p record after.assign)
    (ht : t = (s.visitLeft i p record after heard).bring i) :
    t.arm i = s.faultedArm i (s.arm i) ∧ t.notices.alerts = raiseAlert heard (.armFault i) := by
  rw [ht, (State.visitLeft_leftAt heard).faults ha hg]
  cases i <;> exact ⟨rfl, rfl⟩

end VisitEnds

/-- The visit to a position is over behind a miss that does not leave it UNKNOWN (R28, R32). -/
theorem State.behindMiss_left {s : State} {i : ArmId} {poll : Poll} (hpos : (s.arm i).position = poll.position)
    (hc : (s.presence i poll.position).missContinues = false) : s.behindMiss i poll =
      (s.visitLeft i poll.position ((s.arm i).record.afterPoll poll.fromPresent false) (s.presence i poll.position).missed
        (if (s.presence i poll.position).missLost then raiseAlert s.notices.alerts (.tileLost i poll.position)
          else s.notices.alerts)).bring i := by
  rw [State.behindMiss, hc, State.afterOutcome_leaves s rfl, State.visitLeft, ← hpos]
  rfl

/-- Settles O60: the miss's record and alert, then the visit that goes on, or its end. -/
theorem missesAreCountedAndLoseTheTile : Obligations.MissesAreCountedAndLoseTheTile := by
  intro s i poll frame bytes error r after heard record goesOn hs ha hl hpos hpass hr hne hm hjudge hlow hlost hmismatch
    hpresent hheard hrecord hgoes
  have missed : (s.presence i poll.position).missed = after := by
    rw [hr]; exact PresenceRec.missed_eq hne hm hlow hlost hmismatch hpresent
  have alerts : (if (s.presence i poll.position).missLost then raiseAlert s.notices.alerts (.tileLost i poll.position)
      else s.notices.alerts) = heard := by
    simp only [hheard, hr, PresenceRec.missLost_iff, saturate_three hm, and_comm]
  have polled : (s.arm i).record.afterPoll poll.fromPresent false = record := by
    simp [hrecord, RotationRecord.afterPoll]
  have continues : (s.presence i poll.position).missContinues = true ↔ r.state = .unknown ∧ r.misses < 2 := by
    rw [hr, PresenceRec.missContinues_iff, Ne, saturate_three hm, not_le]
  have close := exec_replyWindowClose hs hl
  have answer := exec_failedAnswer hs hl hjudge
  obtain ⟨t, ht⟩ : ∃ t, t = s.behindMiss i poll := ⟨_, rfl⟩
  rw [← ht] at close answer
  by_cases hc : r.state = .unknown ∧ r.misses < 2
  · rw [State.behindMiss, missed, alerts, polled, continues.mpr hc, State.afterOutcome_stays (polled := true) (by simpa [State.pollOver] using hpass)] at ht
    have arm : t.arm i = s.pollOver i poll.position record after := by rw [ht, State.armAndAlerts_arm]
    refine ⟨t, _, close, answer, by rw [ht]; simp [State.armAndAlerts], rfl, ?_, fun _ => ?_, fun hg => ?_⟩
    · rintro x v rfl rfl
      refine ⟨fun _ _ => ?_, fun hn => absurd hc hn⟩
      rw [ht]
      cases i <;> rfl
    · have kept (q : Fin 32) (hq : q ≠ poll.position) : t.presence i q = s.presence i q := by
        simp [State.presence, arm, State.pollOver, Fin.val_ne_of_ne hq.symm]
      have self : t.presence i poll.position = after := by simp [State.presence, arm, State.pollOver]
      have pass : (t.arm i).pass = .visiting true := by rw [arm]; exact hpass
      rw [self, arm]
      refine ⟨by rw [ht]; rfl, rfl, rfl, rfl, rfl, rfl, rfl, rfl, rfl, fun q hq => ?_, rfl, fun _ => ⟨hpass, hpos⟩,
        fun hn => absurd hc hn⟩
      rw [kept q hq, if_neg (by rw [pass]; simp)]
    · exact absurd (hgoes.mpr (.inl hc)) hg
  · have left : t = (s.visitLeft i poll.position record after heard).bring i := by
      rw [ht, State.behindMiss_left hpos (Bool.eq_false_iff.mpr (mt continues.mp hc)), missed, alerts, polled]
    have hgoes : goesOn ↔ s.goesOnBehind i poll.position record after.assign := by rw [hgoes, or_iff_right hc]
    have leftAt := State.visitLeft_leftAt (s := s) (i := i) (p := poll.position) (record := record) (after := after) heard
    refine ⟨t, _, close, answer, by rw [left]; exact State.visitLeft_frame, rfl, ?_, fun hg => ?_, fun hg => ?_⟩
    · rintro x v rfl rfl
      exact ⟨fun h1 h2 => absurd ⟨h1, h2⟩ hc, fun _ => left⟩
    · rw [hgoes] at hg
      obtain ⟨h1, h2, h3, h4, h5, h6, h7, h8, h9⟩ := State.visitLeft_goesOn ha hg left
      refine ⟨h1, h2, h3, h4, h5, h6, h7, h8, h9, by rw [left]; exact leftAt.othersKept ha hg, ?_, fun h => absurd h hc,
        fun _ => by rw [left]; exact ⟨leftAt.visitOver ha hg, leftAt.waitsBehind⟩⟩
      rw [left]
      rcases leftAt.presence_kept ha hg with h | h <;> rw [h]
    · rw [hgoes] at hg
      exact State.visitLeft_faults ha hg left

/-! ### The miss that ends a silent rotation -/

/-- Behind the visit, a silent rotation faults the arm as it would from the poll (R38, R39). -/
theorem State.visitLeft_faulted (s : State) (i : ArmId) (p : Fin 32) (record : RotationRecord) (after : PresenceRec)
    (heard : List AlertEntry) : (s.visitLeft i p record after heard).faulted i =
      s.armAndAlerts i (s.faultedArm i (s.arm i)) (raiseAlert heard (.armFault i)) := by
  cases i <;> rfl

/-- Settles O54: behind the last visit, and from there on by what goes first. -/
theorem silentRotationFaultsTheArm : Obligations.SilentRotationFaultsTheArm := by
  refine ⟨?_, ?_⟩
  · intro s faulted i p frame hs hrun hl hpos hpresent hm hstart hanswered hlast hfaulted
    have continues : (s.presence i p).missContinues = false := by
      rw [← Bool.not_eq_true, PresenceRec.missContinues_iff]
      simp [hpresent]
    have active : (s.arm i).active = true := by simp [Arm.active, hrun]
    obtain ⟨record, hrecord⟩ : ∃ record, record = (s.arm i).record.afterPoll true false := ⟨_, rfl⟩
    obtain ⟨heard, hheard⟩ : ∃ heard, heard = if (s.presence i p).missLost then
      raiseAlert s.notices.alerts (.tileLost i p) else s.notices.alerts := ⟨_, rfl⟩
    obtain ⟨u, hu⟩ : ∃ u, u = s.visitLeft i p record (s.presence i p).missed heard := ⟨_, rfl⟩
    have close : exec (.replyWindowClose i) s = .next (u.bring i) := by
      rw [exec_replyWindowClose hs hl, State.behindMiss_left hpos continues, hu, hrecord, hheard]
    have left : s.LeftAt u i p record (s.presence i p).missed := hu ▸ State.visitLeft_leftAt heard
    have silent : u.Silent i := by
      refine ⟨left.phase.trans hrun, left.nothingLeft_iff.mpr hlast, ?_⟩
      simp [Arm.faultTest, left.record, hrecord, RotationRecord.afterPoll, hstart, hanswered]
    have faults : u.faulted i = faulted := by
      rw [hu, State.visitLeft_faulted, hfaulted, hheard]
      simp only [PresenceRec.missLost_iff, hpresent, true_and, saturate_three hm]
      rfl
    refine ⟨fun hor => ?_, fun e rest he halt hn hp => ?_⟩
    · rw [close, ← faults, (silent.faults left.pairFree).2 ?_]
      rcases hor with hf | hp
      · refine .inl fun h => hf ?_
        rcases left.frameGoesFirst_iff.mp h with ha | ⟨q, -, hq⟩ | h
        · exact .inl ⟨p, PresenceRec.assign_of_missed ha⟩
        · exact .inl ⟨q, hq⟩
        · exact .inr h
      · exact .inr (by rw [left.pass, if_neg (by omega)])
    · have waits := left.waits hp (.inr (.inr ⟨by simp [he], halt⟩)) fun q hq => hlast q (by omega)
      have noAssign (q : Fin 32) : (u.presence i q).assign = false := by
        by_cases hq : q = p
        · subst hq
          rw [left.presence_self, ← Bool.not_eq_true]
          exact fun h => absurd (PresenceRec.assign_of_missed h) (by simp [hn])
        · rw [left.presence_ne hq]
          exact hn q
      have hsu : u.rstnLow = false := by simpa [hu, State.visitLeft, State.leftBehind] using hs
      obtain ⟨poll, -, v, effect, hv, ended⟩ := silent.sends_effect hsu left.pairFree (left.pass_below hp) noAssign
        (left.effects.trans he) (left.alternation.trans halt)
      refine ⟨u, v, by rw [close, waits], silent.running, left.effects.trans he, left.position hp, left.pass_below hp,
        poll, effect, ?_, by rw [ended, faults]⟩
      rw [hv, State.withArm_arm_self]
  · rintro s faulted i hs hrun hrecord hn rfl
    have silent : s.Silent i := ⟨hrun, hn, by simp [Arm.faultTest, hrecord]⟩
    exact ⟨silent.faults, fun frame held hl => silent.behind_effect hs hl,
      fun q frame again hl => silent.behind_assign hs hl, silent.at_opportunity hs, fun hl hr =>
        ⟨fun q hq hlow => silent.sends_assign hs hl hr hq hlow,
          fun e rest hno he ht => silent.sends_effect hs hl hr hno he ht⟩⟩

end Sys2Proof.Machine
end

section
/-! The answers that pass the checks, and what they decide (R9 to R17, R23, R29, R31). -/

namespace Sys2Proof.Machine

open Sys2Proof

/-! ### An answer's frame, judged -/

theorem byteOf_toNat {n : Nat} (h : n < 256) : (byteOf n).toNat = n := by
  rw [byteOf, BitVec.toNat_ofNat, Nat.mod_eq_of_lt (by omega)]

/-- A frame of a kind and length of the table, from the polled position, that spells an answer in range and no other one
than HELLO to a greeting poll, passes the six checks (R23). -/
theorem judgeAnswer_armFrame {poll : Poll} {head : Byte} {body : List Byte} {ans : Answer}
    (hlen : upstreamLength (hiNibble head) = some (body.length + 3)) (hans : answerOf head body = some ans)
    (hg : poll.greeting = true → ans.isHello = true) :
    judgeAnswer poll (goodBytes (armFrame head (byteOf poll.position.val) body)) = .ok ans := by
  have values : (goodBytes (armFrame head (byteOf poll.position.val) body)).map (·.value) =
      armFrame head (byteOf poll.position.val) body := by
    simp [goodBytes, Function.comp_def]
  have stops : ((goodBytes (armFrame head (byteOf poll.position.val) body)).any fun b => !b.stopOk) = false := by
    simp [goodBytes]
  have address : (byteOf poll.position.val).toNat = poll.position.val := byteOf_toNat (by omega)
  have greeting : (poll.greeting && !ans.isHello) = false := by
    cases h : poll.greeting with
    | false => rfl
    | true => simp [hg h]
  have length : (armFrame head (byteOf poll.position.val) body).length = body.length + 3 := by simp [armFrame]
  have front : (armFrame head (byteOf poll.position.val) body).dropLast = head :: byteOf poll.position.val :: body := by
    rw [armFrame, List.dropLast_concat]
  have last : byteAt (armFrame head (byteOf poll.position.val) body) (body.length + 3 - 1) =
      armCheck (head :: byteOf poll.position.val :: body) := by
    simp [byteAt, armFrame]
  have first : byteAt (armFrame head (byteOf poll.position.val) body) 0 = head := rfl
  have second : byteAt (armFrame head (byteOf poll.position.val) body) 1 = byteOf poll.position.val := rfl
  unfold judgeAnswer
  simp only [values, stops, length, front, last, first, second, hlen, address, hans, greeting, ne_eq, not_true_eq_false,
    if_false, List.drop_succ_cons, List.drop_zero, Bool.false_eq_true]

theorem pieceField_byteOf (piece : Piece) : pieceField (byteOf piece.id.val) (pieceSeatCode piece.seat) = some piece := by
  obtain ⟨id, seat⟩ := piece
  have number : numberField 64 (byteOf id.val) = some id := (numberField_eq_some (by decide)).mpr rfl
  have seated : pieceSeatField (pieceSeatCode seat) = some seat := by
    cases seat with
    | neutral => rfl
    | player n => revert n; decide
  simp only [pieceField, number, seated]

/-- The head byte of an event with this kind nibble: the toggle and more bits below it (R179). -/
def eventHead (kind : Byte) (toggle more : Bool) : Byte := kind ||| ((if more then 4 else 0) ||| (if toggle then 1 else 0))

theorem eventHead_place (toggle more : Bool) : hiNibble (eventHead 0xC0 toggle more) = 0xC ∧
    (eventHead 0xC0 toggle more).getLsbD 0 = toggle ∧ (eventHead 0xC0 toggle more).getLsbD 2 = more := by
  cases toggle <;> cases more <;> decide

theorem eventHead_lift (toggle more : Bool) : hiNibble (eventHead 0xD0 toggle more) = 0xD ∧
    (eventHead 0xD0 toggle more).getLsbD 0 = toggle ∧ (eventHead 0xD0 toggle more).getLsbD 2 = more := by
  cases toggle <;> cases more <;> decide

/-- The frame that a tile at the polled position sends is accepted as the answer it says (R23, R179, R180). -/
theorem judgeAnswer_frame {poll : Poll} {ans : Answer} (hg : poll.greeting = true → ∃ k, ans = .hello k) :
    judgeAnswer poll (goodBytes (ans.frame poll.position)) = .ok ans := by
  have hg : poll.greeting = true → ans.isHello = true := fun h => by
    obtain ⟨k, rfl⟩ := hg h
    rfl
  cases ans with
  | idle => exact judgeAnswer_armFrame rfl rfl hg
  | hello k => cases k <;> exact judgeAnswer_armFrame rfl rfl hg
  | event e toggle more =>
    cases e with
    | press => cases toggle <;> cases more <;> exact judgeAnswer_armFrame rfl rfl hg
    | release => cases toggle <;> cases more <;> exact judgeAnswer_armFrame rfl rfl hg
    | place piece =>
      obtain ⟨kind, bit0, bit2⟩ := eventHead_place toggle more
      refine judgeAnswer_armFrame (head := eventHead 0xC0 toggle more)
        (body := [byteOf piece.id.val, pieceSeatCode piece.seat]) (by rw [kind]; rfl) ?_ hg
      simp only [answerOf, kind, bit0, bit2, pieceField_byteOf, Option.map_some]
    | lift piece =>
      obtain ⟨kind, bit0, bit2⟩ := eventHead_lift toggle more
      refine judgeAnswer_armFrame (head := eventHead 0xD0 toggle more)
        (body := [byteOf piece.id.val, pieceSeatCode piece.seat]) (by rw [kind]; rfl) ?_ hg
      simp only [answerOf, kind, bit0, bit2, pieceField_byteOf, Option.map_some]

/-- An accepted answer is handled by the presence of the position, and the visit goes on or ends (R23, R28). -/
theorem exec_answer {s : State} {i : ArmId} (hs : s.rstnLow = false) {poll : Poll} {frame : List Byte}
    (hl : (s.arm i).line = .poll poll frame) {ans : Answer} (hg : poll.greeting = true → ∃ k, ans = .hello k) :
    exec (.pollAnswer i (goodBytes (ans.frame poll.position))) s =
      .next (State.afterOutcome i ((s.endPoll i poll true).answerValid i poll.position ans)) := by
  simp only [exec, execPollAnswer, State.alive_of_high hs, hl, State.pollAnswered, judgeAnswer_frame hg]

end Sys2Proof.Machine
end

section
/-! HELLO and IDLE answers (R9 to R17, R29, R31). -/

namespace Sys2Proof.Machine

open Sys2Proof

section Valid

variable {s : State} {i : ArmId} {poll : Poll}

/-- The alerts behind an alert that may have been raised. -/
def raisedOpt (q : List AlertEntry) (al : Option Alert) : List AlertEntry :=
  match al with
  | some x => raiseAlert q x
  | none => q

/-- A HELLO decides the presence of any position that is not EXCLUDED (R11). -/
theorem State.answerValid_hello (s : State) (i : ArmId) (poll : Poll) (k : TileKind)
    (hne : (s.presence i poll.position).state ≠ .excluded) :
    (s.endPoll i poll true).answerValid i poll.position (.hello k) =
      (s.armAndAlerts i (s.pollOver i poll.position ((s.arm i).record.afterPoll poll.fromPresent true)
          ((s.presence i poll.position).greeted (k == (s.mapRec i poll.position).kind)))
        (raisedOpt s.notices.alerts (helloAlert i poll.position (s.presence i poll.position).state
          (k == (s.mapRec i poll.position).kind))), false) := by
  have presence : ((s.endPoll i poll true).arm i).presence[poll.position] = s.presence i poll.position := by
    simp [State.endPoll, State.presence]
  have kind : (s.endPoll i poll true).mapRec i poll.position = s.mapRec i poll.position := by
    simp [State.endPoll, State.mapRec]
  unfold State.answerValid
  simp only [presence, kind, if_neg hne]
  cases helloAlert i poll.position (s.presence i poll.position).state (k == (s.mapRec i poll.position).kind) <;>
    cases i <;> rfl

/-- An answer other than HELLO from a MISMATCH position only clears its miss count (R16). -/
theorem State.answerValid_mismatch (hst : (s.presence i poll.position).state = .mismatch) {ans : Answer}
    (hans : ∀ k, ans ≠ .hello k) : (s.endPoll i poll true).answerValid i poll.position ans =
      (s.armAndAlerts i (s.pollOver i poll.position ((s.arm i).record.afterPoll poll.fromPresent true)
          { s.presence i poll.position with misses := 0 }) s.notices.alerts, false) := by
  have state : (((s.endPoll i poll true).arm i).presence[poll.position]).state = .mismatch := by
    simpa [State.endPoll, State.presence] using hst
  cases ans with
  | hello k => exact absurd rfl (hans k)
  | idle | event e toggle more =>
    simp only [State.answerValid, state, hst]
    cases i <;> rfl

/-- IDLE from a PRESENT position clears its miss count (R31). -/
theorem State.answerValid_idle_present (hst : (s.presence i poll.position).state = .present) :
    (s.endPoll i poll true).answerValid i poll.position .idle =
      (s.armAndAlerts i (s.pollOver i poll.position ((s.arm i).record.afterPoll poll.fromPresent true)
          { s.presence i poll.position with misses := 0 }) s.notices.alerts, false) := by
  have state : (((s.endPoll i poll true).arm i).presence[poll.position]).state = .present := by
    simpa [State.endPoll, State.presence] using hst
  simp only [State.answerValid, state]
  cases i <;> rfl

/-- The answer of an ABSENT position is the one of a PRESENT position that has just come back (R15). -/
theorem State.answerValid_absent {t : State} {p : Fin 32} (hst : (t.presence i p).state = .absent) {ans : Answer}
    (hans : ∀ k, ans ≠ .hello k) : t.answerValid i p ans =
      ((t.withArm i ((t.arm i).withPresence p { t.presence i p with state := .present, misses := 0 })).raise
        (.tileBack i p)).answerPresent i p ans := by
  unfold State.presence at hst
  cases ans with
  | hello k => exact absurd rfl (hans k)
  | idle | event e toggle more => simp only [State.answerValid, hst, State.presence]

/-- IDLE from an ABSENT position brings it back (R15). -/
theorem State.answerValid_idle_absent (hst : (s.presence i poll.position).state = .absent) :
    (s.endPoll i poll true).answerValid i poll.position .idle =
      (s.armAndAlerts i (s.pollOver i poll.position ((s.arm i).record.afterPoll poll.fromPresent true)
          { s.presence i poll.position with state := .present, misses := 0 })
        (raiseAlert s.notices.alerts (.tileBack i poll.position)), false) := by
  have state : ((s.endPoll i poll true).presence i poll.position).state = .absent := by
    simpa [State.endPoll, State.presence] using hst
  rw [State.answerValid_absent state (by simp)]
  simp only [State.answerPresent, State.endPoll, State.presence, Arm.withPresence, State.withArm_arm_self,
    State.withArm_withArm, State.raise_arm, Fin.getElem_fin, Vector.getElem_set_self, Vector.set_set]
  cases i <;> rfl

end Valid

/-- Settles O59: each answer decides the record and the alerts, and the visit is over. -/
theorem helloAndIdleDecideThePresence : Obligations.HelloAndIdleDecideThePresence := by
  rintro s i poll frame r hs ha hl hpos rfl hne ans after heard record goesOn hgreet hans hsame hother hidle hmismatch
    hrecord hgoes
  have polled : (s.arm i).record.afterPoll poll.fromPresent true = record := by
    simp [hrecord, RotationRecord.afterPoll]
  have decided : (s.endPoll i poll true).answerValid i poll.position ans =
      (s.armAndAlerts i (s.pollOver i poll.position record after) heard, false) := by
    rw [← polled]
    by_cases hk : ∃ k, ans = .hello k
    · obtain ⟨k, rfl⟩ := hk
      rw [State.answerValid_hello s i poll k hne]
      by_cases hkind : k = (s.mapRec i poll.position).kind
      · obtain ⟨rfl, rfl⟩ := hsame k rfl hkind
        simp only [beq_iff_eq.mpr hkind]
        cases hst : (s.presence i poll.position).state <;> first | exact absurd hst hne | rfl
      · obtain ⟨rfl, rfl⟩ := hother k rfl hkind
        simp only [beq_eq_false_iff_ne.mpr hkind]
        cases hst : (s.presence i poll.position).state <;> first | exact absurd hst hne | rfl
    · have noHello (k : TileKind) : ans ≠ .hello k := fun h => hk ⟨k, h⟩
      by_cases hst : (s.presence i poll.position).state = .mismatch
      · obtain ⟨rfl, rfl⟩ := hmismatch noHello hst
        exact State.answerValid_mismatch hst noHello
      · obtain ⟨rfl, hst⟩ := (hans.resolve_left hk).resolve_right hst
        rcases hst with hp | hp
        · obtain ⟨rfl, rfl⟩ := hidle rfl (by simp [hp])
          rw [State.answerValid_idle_present hp, if_neg (by simp [hp]), ← hp]
        · obtain ⟨rfl, rfl⟩ := hidle rfl (by simp [hp])
          rw [State.answerValid_idle_absent hp, if_pos hp]
  obtain ⟨t, ht⟩ : ∃ t, t = (s.visitLeft i poll.position record after heard).bring i := ⟨_, rfl⟩
  have answer : exec (.pollAnswer i (goodBytes (Answer.frame ans poll.position))) s = .next t := by
    rw [exec_answer hs hl hgreet, decided, State.afterOutcome_leaves s rfl, ht, State.visitLeft, ← hpos]
    rfl
  have leftAt := State.visitLeft_leftAt (s := s) (i := i) (p := poll.position) (record := record) (after := after) heard
  refine ⟨t, answer, by rw [ht]; exact State.visitLeft_frame, ht, fun hg => ?_, fun hg => ?_⟩
  · rw [hgoes] at hg
    obtain ⟨alerts, line, fifo, effects, framing, check, shape, stray, doze⟩ := State.visitLeft_goesOn ha hg ht
    have kept : t.presence i poll.position = after ∨ t.presence i poll.position = { after with taken := 0 } := by
      rw [ht]; exact leftAt.presence_kept ha hg
    refine ⟨alerts, fifo, effects, line, framing, check, shape, stray, doze, by rw [ht]; exact leftAt.visitOver ha hg,
      by rw [ht]; exact leftAt.waitsBehind, by rw [ht]; exact leftAt.othersKept ha hg, ?_, ?_⟩
    · rcases kept with h | h <;> rw [h]
    · rintro ⟨k, hk⟩
      have untaken : after.taken = 0 := by
        by_cases hkind : k = (s.mapRec i poll.position).kind
        · rw [(hsame k hk hkind).1]
        · rw [(hother k hk hkind).1]
      rcases kept with h | h <;> rw [h]
      exact untaken
  · rw [hgoes] at hg
    exact State.visitLeft_faults ha hg ht

end Sys2Proof.Machine
end

section
/-! Event answers (R15, R27 to R31, R43). -/

namespace Sys2Proof.Machine

open Sys2Proof

section Events

variable {s : State} {i : ArmId} {p : Fin 32} {e : TileEvent} {toggle more : Bool}

/-- The alerts behind an answer that brings an ABSENT position back (R15). -/
def State.backAlerts (s : State) (i : ArmId) (p : Fin 32) : List AlertEntry :=
  if (s.presence i p).state = .absent then raiseAlert s.notices.alerts (.tileBack i p) else s.notices.alerts

/-- An event answer of a PRESENT or ABSENT position is handled as one of a PRESENT position, with TILE-BACK raised before
where it was ABSENT (R15). -/
theorem State.answerValid_event_back {poll : Poll} (hst : (s.presence i poll.position).state = .present ∨
    (s.presence i poll.position).state = .absent) :
    ∃ misses, (s.endPoll i poll true).answerValid i poll.position (.event e toggle more) =
      (s.armAndAlerts i (s.pollOver i poll.position ((s.arm i).record.afterPoll poll.fromPresent true)
          { s.presence i poll.position with state := .present, misses := misses })
        (s.backAlerts i poll.position)).answerPresent i poll.position (.event e toggle more) := by
  have presence : (s.endPoll i poll true).presence i poll.position = s.presence i poll.position := by
    simp [State.endPoll, State.presence]
  rcases hst with hst | hst
  · have same : ({ s.presence i poll.position with state := .present } : PresenceRec) = s.presence i poll.position := by
      rw [← hst]
    have stays : (s.arm i).presence.set poll.position (s.presence i poll.position) = (s.arm i).presence := by
      simp [State.presence]
    have ended : s.endPoll i poll true = s.armAndAlerts i (s.pollOver i poll.position
        ((s.arm i).record.afterPoll poll.fromPresent true) (s.presence i poll.position)) s.notices.alerts := by
      rw [State.pollOver, stays, ← State.withArm_eq_armAndAlerts]
      rfl
    refine ⟨(s.presence i poll.position).misses, ?_⟩
    rw [same, State.backAlerts, if_neg (by simp [hst]), ← ended]
    have state : (((s.endPoll i poll true).arm i).presence[poll.position]).state = .present := by
      rw [← State.presence, presence]
      exact hst
    simp only [State.answerValid, state]
  · refine ⟨0, ?_⟩
    rw [State.answerValid_absent (by rw [presence]; exact hst) (by simp), presence, State.backAlerts, if_pos hst]
    congr 1
    cases i <;> rfl

/-- Whether the visit goes on behind an event: more set, and fewer than four events taken (R28). -/
theorem visitGoesOn_eq (more : Bool) (taken : Nat) :
    (more && decide ((if taken < Config.visitLimit then taken + 1 else taken) < Config.visitLimit)) =
      (more && decide (taken < 3)) := by
  congr 1
  rw [decide_eq_decide, Config.visitLimit]
  split <;> omega

/-- The end of doze at a visit leaves the start mark (R43; log 10). -/
theorem Arm.dozeOff_visiting {x : Arm} {polled : Bool} (h : x.pass = .visiting polled) :
    x.dozeOff = { x with doze := false } := by
  cases hd : x.doze <;> simp [Arm.dozeOff, hd, h]
  rw [← hd, ← h]

/-- What an event of a PRESENT tile leaves: the FIFO, the SHAPE count and the doze flag of its arm, the other arm, and the
alerts (R29, R43). -/
structure EventTrace where
  fifo : List EventRecord
  shape : Nat
  doze : Bool
  away : Arm
  heard : List AlertEntry

/-- The trace of an event that is `taken`, or is `misfit` because the map's kind cannot produce it, or is a duplicate, with
the alerts `back` before it (R29, R30, R43). -/
structure EventTrace.Of (s : State) (back : List AlertEntry) (i : ArmId) (p : Fin 32) (e : TileEvent) (taken misfit : Prop)
    (tr : EventTrace) : Prop where
  fifo_taken : taken → tr.fifo = (s.arm i).fifo ++ [⟨i, p, e, (s.mapRec i p).zone⟩]
  fifo_kept : ¬ taken → tr.fifo = (s.arm i).fifo
  shape_misfit : misfit → tr.shape = min ((s.arm i).shape + 1) (max (s.arm i).shape 255)
  shape_kept : ¬ misfit → tr.shape = (s.arm i).shape
  woken : taken ∧ (s.arm i).doze = true →
    tr.doze = false ∧ tr.away = (s.arm (ArmId.other i)).dozeOff ∧ tr.heard = raiseAlert back .wake
  asleep : ¬ (taken ∧ (s.arm i).doze = true) →
    tr.doze = (s.arm i).doze ∧ tr.away = s.arm (ArmId.other i) ∧ tr.heard = back

/-- The arm behind an event answer of a PRESENT tile (R29 to R31). -/
def State.eventArm (s : State) (i : ArmId) (p : Fin 32) (toggle : Bool) (tr : EventTrace) : Arm :=
  { s.arm i with
    fifo := tr.fifo, shape := tr.shape, doze := tr.doze
    presence := (s.arm i).presence.set p { s.presence i p with
      misses := 0, toggle := toggle
      taken := if (s.presence i p).taken < 4 then (s.presence i p).taken + 1 else (s.presence i p).taken } }

/-- The state behind an event answer of a PRESENT tile. -/
def State.behindEvent (s : State) (i : ArmId) (p : Fin 32) (toggle : Bool) (tr : EventTrace) : State :=
  (s.armAndAlerts i (s.eventArm i p toggle tr) tr.heard).withArm (ArmId.other i) tr.away

/-- What a changed toggle can do: a misfit counts SHAPE; an event joins the FIFO, and ends doze on both arms where its own
arm dozes (R29, R43). -/
theorem State.acceptEvent_cases (s : State) (i : ArmId) (p : Fin 32) (e : TileEvent) (toggle : Bool)
    {presence : Vector PresenceRec 32} {record : EventRecord}
    (hp : presence = (s.arm i).presence.set p { s.presence i p with toggle := toggle })
    (hr : record = ⟨i, p, e, (s.mapRec i p).zone⟩) :
    (e.source ≠ (s.mapRec i p).kind ∧ s.acceptEvent i p e toggle =
      s.withArm i { s.arm i with shape := saturate 255 (s.arm i).shape, presence := presence }) ∨
    (e.source = (s.mapRec i p).kind ∧ (s.arm i).doze = false ∧ s.acceptEvent i p e toggle =
      s.withArm i { s.arm i with fifo := (s.arm i).fifo ++ [record], presence := presence }) ∨
    (e.source = (s.mapRec i p).kind ∧ (s.arm i).doze = true ∧ s.acceptEvent i p e toggle =
      ((s.withArm i (Arm.dozeOff { s.arm i with fifo := (s.arm i).fifo ++ [record], presence := presence })).withArm
        (ArmId.other i) (s.arm (ArmId.other i)).dozeOff).raise .wake) := by
  subst hp hr
  by_cases hfits : e.source = (s.mapRec i p).kind
  · right
    cases hd : (s.arm i).doze with
    | false =>
      refine .inl ⟨hfits, rfl, ?_⟩
      rw [State.acceptEvent, if_pos hfits, State.wake, State.withArm_arm_self, if_neg (by simp [Arm.withPresence, hd])]
      rfl
    | true =>
      refine .inr ⟨hfits, rfl, ?_⟩
      rw [State.acceptEvent, if_pos hfits, State.wake, State.withArm_arm_self, if_pos (by simpa [Arm.withPresence] using hd)]
      cases i <;> rfl
  · left
    refine ⟨hfits, ?_⟩
    rw [State.acceptEvent, if_neg hfits]
    rfl

/-- An event answer of a PRESENT tile is taken once: a changed toggle is a new event, which joins the FIFO and ends doze, or
counts SHAPE; the same toggle is a duplicate (R29 to R31, R43). -/
theorem State.answerPresent_event {polled : Bool} (hpass : (s.arm i).pass = .visiting polled) :
    ∃ tr : EventTrace, s.answerPresent i p (.event e toggle more) =
        (s.behindEvent i p toggle tr, more && decide ((s.presence i p).taken < 3)) ∧
      tr.Of s s.notices.alerts i p e (toggle ≠ (s.presence i p).toggle ∧ e.source = (s.mapRec i p).kind)
        (toggle ≠ (s.presence i p).toggle ∧ e.source ≠ (s.mapRec i p).kind) := by
  obtain ⟨t, ht⟩ : ∃ t, t = s.withArm i { s.arm i with presence := (s.arm i).presence.set p { s.presence i p with
    misses := 0
    taken := if (s.presence i p).taken < 4 then (s.presence i p).taken + 1 else (s.presence i p).taken } } := ⟨_, rfl⟩
  have answered : s.answerPresent i p (.event e toggle more) =
      (if toggle = (s.presence i p).toggle then t else t.acceptEvent i p e toggle,
        more && decide ((s.presence i p).taken < 3)) := by
    rw [← visitGoesOn_eq, ht]
    rfl
  rw [answered]
  by_cases hfresh : toggle = (s.presence i p).toggle
  · refine ⟨⟨(s.arm i).fifo, (s.arm i).shape, (s.arm i).doze, s.arm (ArmId.other i), s.notices.alerts⟩, ?_, ?_⟩
    · rw [if_pos hfresh, hfresh, ht]
      cases i <;> rfl
    · exact ⟨by simp [hfresh], by simp, by simp [hfresh], by simp, by simp [hfresh], by simp⟩
  have kind : t.mapRec i p = s.mapRec i p := by simp [ht, State.mapRec]
  have arm : t.arm i = { s.arm i with presence := (t.arm i).presence } := by simp [ht]
  have presence : (s.eventArm i p toggle ⟨[], 0, false, s.armA, []⟩).presence =
      (t.arm i).presence.set p { t.presence i p with toggle := toggle } := by
    simp [ht, State.presence, State.eventArm]
  simp only [if_neg hfresh]
  rcases t.acceptEvent_cases i p e toggle presence rfl with ⟨hfits, h⟩ | ⟨hfits, hd, h⟩ | ⟨hfits, hd, h⟩ <;>
    rw [kind] at hfits <;> rw [h, arm]
  · refine ⟨⟨(s.arm i).fifo, saturate 255 (s.arm i).shape, (s.arm i).doze, s.arm (ArmId.other i), s.notices.alerts⟩,
      ?_, ?_⟩
    · rw [ht]
      cases i <;> rfl
    · exact ⟨by simp [hfits], by simp, by simp [saturate_eq], by simp [hfresh, hfits], by simp [hfits], by simp⟩
  · rw [arm] at hd
    refine ⟨⟨(s.arm i).fifo ++ [⟨i, p, e, (s.mapRec i p).zone⟩], (s.arm i).shape, (s.arm i).doze,
      s.arm (ArmId.other i), s.notices.alerts⟩, ?_, ?_⟩
    · rw [ht]
      cases i <;> rfl
    · exact ⟨by simp, by simp [hfresh, hfits], by simp [hfits], by simp, by simp [show (s.arm i).doze = false from hd], by simp⟩
  · rw [arm] at hd
    refine ⟨⟨(s.arm i).fifo ++ [⟨i, p, e, (s.mapRec i p).zone⟩], (s.arm i).shape, false,
      (s.arm (ArmId.other i)).dozeOff, raiseAlert s.notices.alerts .wake⟩, ?_, ?_⟩
    · rw [Arm.dozeOff_visiting (polled := polled) (by simpa using hpass), ht]
      cases i <;> rfl
    · exact ⟨by simp, by simp [hfresh, hfits], by simp [hfits], by simp, by simp,
        by simp [hfresh, hfits, show (s.arm i).doze = true from hd]⟩

end Events

end Sys2Proof.Machine
end

section
/-! Where an event answer leads (R27, R28, R38, R39, R43). -/

namespace Sys2Proof.Machine

open Sys2Proof

theorem State.withArm_arm_of_other (s : State) (i : ArmId) (x : Arm) : (s.withArm (ArmId.other i) x).arm i = s.arm i := by
  cases i <;> rfl

@[simp] theorem State.armAndAlerts_other (s : State) (i : ArmId) (x : Arm) (q : List AlertEntry) :
    (s.armAndAlerts i x q).arm (ArmId.other i) = s.arm (ArmId.other i) := by
  cases i <;> rfl

/-- The counts, FIFO and doze flag of an arm are the same wherever the end of a visit leads (R39). -/
theorem State.LeftAt.counts {s t : State} {i : ArmId} {p : Fin 32} {record : RotationRecord} {after : PresenceRec}
    (h : s.LeftAt t i p record after) (ha : (s.arm i).active = true) :
    ((t.bring i).arm i).fifo = (t.arm i).fifo ∧ ((t.bring i).arm i).framing = (t.arm i).framing ∧
      ((t.bring i).arm i).check = (t.arm i).check ∧ ((t.bring i).arm i).shape = (t.arm i).shape ∧
      ((t.bring i).arm i).stray = (t.arm i).stray ∧ ((t.bring i).arm i).doze = (t.arm i).doze := by
  by_cases hg : s.goesOnBehind i p record after.assign
  · obtain ⟨-, fifo, -, framing, check, shape, stray, doze⟩ := (h.goesOn ha hg).2.kept
    exact ⟨fifo, framing, check, shape, stray, doze⟩
  · rw [h.faults ha hg, State.faulted, State.armAndAlerts_arm]
    exact ⟨rfl, rfl, rfl, rfl, rfl, rfl⟩

section Answered

variable {s : State} {i : ArmId} {p : Fin 32} {toggle : Bool} {record : RotationRecord}

/-- The presence record behind an event answer (R15, R28 to R30). -/
def PresenceRec.eventTaken (r : PresenceRec) (toggle : Bool) : PresenceRec :=
  { r with state := .present, misses := 0, toggle := toggle, taken := if r.taken < 4 then r.taken + 1 else r.taken }

/-- The arm right behind an event answer, at its visit (R29, R30, R38). -/
def State.answeredArm (s : State) (i : ArmId) (p : Fin 32) (toggle : Bool) (record : RotationRecord) (tr : EventTrace) :
    Arm :=
  { s.arm i with
    line := .free, record := record, fifo := tr.fifo, shape := tr.shape, doze := tr.doze
    presence := (s.arm i).presence.set p ((s.presence i p).eventTaken toggle) }

/-- The state right behind an event answer, at its visit. -/
def State.answered (s : State) (i : ArmId) (p : Fin 32) (toggle : Bool) (record : RotationRecord) (tr : EventTrace) :
    State :=
  (s.armAndAlerts i (s.answeredArm i p toggle record tr) tr.heard).withArm (ArmId.other i) tr.away

/-- An event answer is taken once, and decides whether the visit goes on (R15, R28 to R30, R43). -/
theorem State.answerValid_event {e : TileEvent} {more : Bool} {poll : Poll} (hp : poll.position = p)
    (hst : (s.presence i p).state = .present ∨ (s.presence i p).state = .absent)
    (hpass : (s.arm i).pass = .visiting true)
    (hrecord : record = (s.arm i).record.afterPoll poll.fromPresent true) :
    ∃ tr : EventTrace, (s.endPoll i poll true).answerValid i p (.event e toggle more) =
        (s.answered i p toggle record tr, more && decide ((s.presence i p).taken < 3)) ∧
      tr.Of s (s.backAlerts i p) i p e
        (toggle ≠ (s.presence i p).toggle ∧ e.source = (s.mapRec i p).kind)
        (toggle ≠ (s.presence i p).toggle ∧ e.source ≠ (s.mapRec i p).kind) := by
  subst hp hrecord
  obtain ⟨misses, back⟩ := State.answerValid_event_back (e := e) (toggle := toggle) (more := more) hst
  obtain ⟨b, hb⟩ : ∃ b, b = s.armAndAlerts i (s.pollOver i poll.position ((s.arm i).record.afterPoll poll.fromPresent true)
    { s.presence i poll.position with state := .present, misses := misses }) (s.backAlerts i poll.position) := ⟨_, rfl⟩
  have arm : b.arm i = s.pollOver i poll.position ((s.arm i).record.afterPoll poll.fromPresent true)
      { s.presence i poll.position with state := .present, misses := misses } := by rw [hb, State.armAndAlerts_arm]
  have presence : b.presence i poll.position =
      { s.presence i poll.position with state := .present, misses := misses } := by
    rw [State.presence, arm]
    simp [State.pollOver]
  have kind : b.mapRec i poll.position = s.mapRec i poll.position := by simp [hb, State.mapRec]
  obtain ⟨tr, hanswer, htrace⟩ := State.answerPresent_event (s := b) (i := i) (p := poll.position) (e := e)
    (toggle := toggle) (more := more) (polled := true) (by rw [arm]; exact hpass)
  rw [presence, kind] at htrace
  rw [presence] at hanswer
  refine ⟨tr, ?_, ?_⟩
  · rw [back, ← hb, hanswer]
    have eventArm : b.eventArm i poll.position toggle tr = s.answeredArm i poll.position toggle
        ((s.arm i).record.afterPoll poll.fromPresent true) tr := by
      rw [State.eventArm, presence, arm]
      simp [State.pollOver, State.answeredArm, PresenceRec.eventTaken]
    rw [State.behindEvent, eventArm, State.answered, hb]
    cases i <;> rfl
  · obtain ⟨fifoTaken, fifoKept, shapeMisfit, shapeKept, woken, asleep⟩ := htrace
    have other : b.arm (ArmId.other i) = s.arm (ArmId.other i) := by rw [hb, State.armAndAlerts_other]
    have alerts : b.notices.alerts = s.backAlerts i poll.position := by rw [hb]; rfl
    rw [arm] at fifoTaken fifoKept shapeMisfit shapeKept woken asleep
    rw [kind] at fifoTaken
    rw [other, alerts] at woken asleep
    exact ⟨fifoTaken, fifoKept, shapeMisfit, shapeKept, woken, asleep⟩

/-- Behind an event answer the visit goes on, or is over (R28). -/
theorem State.afterOutcome_answered (hpos : (s.arm i).position = p) (hpass : (s.arm i).pass = .visiting true)
    (tr : EventTrace) (goesOn : Bool) : State.afterOutcome i (s.answered i p toggle record tr, goesOn) =
      if goesOn = true then s.answered i p toggle record tr
      else ((s.answered i p toggle record tr).leftBehind i p (s.answeredArm i p toggle record tr)).bring i := by
  have arm : (s.answered i p toggle record tr).arm i = s.answeredArm i p toggle record tr := by
    rw [State.answered, State.withArm_arm_of_other, State.armAndAlerts_arm]
  cases goesOn with
  | true => exact State.afterOutcome_stays (polled := true) (by rw [arm]; exact hpass)
  | false =>
    have at_p : (s.answeredArm i p toggle record tr).position = p := hpos
    rw [if_neg Bool.false_ne_true, State.afterOutcome, arm, State.withArm_leave _ i _ rfl, at_p]
    rfl

/-- The arm stands behind the visit whose last answer was this event. -/
def State.answeredLeft (s : State) (i : ArmId) (p : Fin 32) (toggle : Bool) (record : RotationRecord) (tr : EventTrace) :
    State :=
  (s.answered i p toggle record tr).leftBehind i p (s.answeredArm i p toggle record tr)

/-- Where an event answer leads: the visit goes on, or the rotation is brought to where it stands behind it (R28). -/
def State.eventEnd (s : State) (i : ArmId) (p : Fin 32) (toggle more : Bool) (record : RotationRecord) (tr : EventTrace) :
    State :=
  if more = true ∧ (s.presence i p).taken < 3 then s.answered i p toggle record tr
  else (s.answeredLeft i p toggle record tr).bring i

/-- An event answer, in full (R15, R27 to R31, R38, R43). -/
theorem exec_event {e : TileEvent} {more : Bool} (hs : s.rstnLow = false) {fromPresent : Bool} {frame : List Byte}
    (hl : (s.arm i).line = .poll ⟨p, false, fromPresent⟩ frame) (hpos : (s.arm i).position = p)
    (hpass : (s.arm i).pass = .visiting true)
    (hst : (s.presence i p).state = .present ∨ (s.presence i p).state = .absent)
    (hrecord : record = (s.arm i).record.afterPoll fromPresent true) :
    ∃ tr : EventTrace, tr.Of s (s.backAlerts i p) i p e
        (toggle ≠ (s.presence i p).toggle ∧ e.source = (s.mapRec i p).kind)
        (toggle ≠ (s.presence i p).toggle ∧ e.source ≠ (s.mapRec i p).kind) ∧
      exec (.pollAnswer i (goodBytes (Answer.frame (.event e toggle more) p))) s =
        .next (s.eventEnd i p toggle more record tr) := by
  obtain ⟨tr, answer, trace⟩ := State.answerValid_event (e := e) (toggle := toggle) (more := more)
    (poll := ⟨p, false, fromPresent⟩) rfl hst hpass hrecord
  refine ⟨tr, trace, ?_⟩
  rw [exec_answer (poll := ⟨p, false, fromPresent⟩) hs hl (by simp), answer, State.afterOutcome_answered hpos hpass]
  simp [State.eventEnd, State.answeredLeft]

end Answered

section EventEnd

variable {s : State} {i : ArmId} {p : Fin 32} {toggle more : Bool} {record : RotationRecord} {tr : EventTrace}

theorem State.eventEnd_stays (h : more = true ∧ (s.presence i p).taken < 3) :
    s.eventEnd i p toggle more record tr = s.answered i p toggle record tr := if_pos h

theorem State.eventEnd_leaves (h : ¬ (more = true ∧ (s.presence i p).taken < 3)) :
    s.eventEnd i p toggle more record tr = (s.answeredLeft i p toggle record tr).bring i := if_neg h

@[simp] theorem State.answered_arm :
    (s.answered i p toggle record tr).arm i = s.answeredArm i p toggle record tr := by
  rw [State.answered, State.withArm_arm_of_other, State.armAndAlerts_arm]

@[simp] theorem State.answered_alerts : (s.answered i p toggle record tr).notices.alerts = tr.heard := by
  rw [State.answered, State.withArm_notices, State.armAndAlerts_alerts]

theorem State.answeredLeft_leftAt :
    s.LeftAt (s.answeredLeft i p toggle record tr) i p record ((s.presence i p).eventTaken toggle) :=
  State.leftBehind_leftAt rfl rfl rfl rfl rfl rfl

@[simp] theorem State.answeredLeft_alerts : (s.answeredLeft i p toggle record tr).notices.alerts = tr.heard := by
  rw [State.answeredLeft, State.leftBehind_notices, State.answered_alerts]

/-- Wherever an event answer leads, only the two arms and the ALERT queue change, the other arm at most by the end of
doze. -/
theorem State.eventEnd_frame {t : State} (ht : t = s.eventEnd i p toggle more record tr) :
    t = ((s.withArm .a t.armA).withArm .b t.armB).withNotices { s.notices with alerts := t.notices.alerts } ∧
      t.arm (ArmId.other i) = tr.away := by
  by_cases hc : more = true ∧ (s.presence i p).taken < 3
  · rw [State.eventEnd_stays hc] at ht
    subst ht
    cases i <;> exact ⟨rfl, rfl⟩
  · rw [State.eventEnd_leaves hc, State.bring_frame] at ht
    rw [ht]
    cases i <;> exact ⟨rfl, rfl⟩

/-- The FIFO, the counts and the doze flag of the arm (R29, R37, R43). -/
theorem State.eventEnd_counts (ha : (s.arm i).active = true) {t : State} (ht : t = s.eventEnd i p toggle more record tr) :
    (t.arm i).fifo = tr.fifo ∧ (t.arm i).framing = (s.arm i).framing ∧ (t.arm i).check = (s.arm i).check ∧
      (t.arm i).shape = tr.shape ∧ (t.arm i).stray = (s.arm i).stray ∧ (t.arm i).doze = tr.doze := by
  by_cases hc : more = true ∧ (s.presence i p).taken < 3
  · rw [ht, State.eventEnd_stays hc, State.answered_arm]
    exact ⟨rfl, rfl, rfl, rfl, rfl, rfl⟩
  · obtain ⟨h1, h2, h3, h4, h5, h6⟩ :=
      (State.answeredLeft_leftAt (s := s) (toggle := toggle) (record := record) (tr := tr) (p := p)).counts ha
    rw [ht, State.eventEnd_leaves hc, h1, h2, h3, h4, h5, h6, State.answeredLeft, State.leftBehind_arm]
    exact ⟨rfl, rfl, rfl, rfl, rfl, rfl⟩

/-- The state right behind an event answer, with the other arm read off a later one. -/
theorem State.answered_eq {t : State} (haway : t.arm (ArmId.other i) = tr.away) :
    (((s.withArm .a t.armA).withArm .b t.armB).withArm i (s.answeredArm i p toggle record tr)).withNotices
      { s.notices with alerts := tr.heard } = s.answered i p toggle record tr := by
  rw [State.answered, ← haway]
  cases i <;> rfl

/-- The end of a visit behind an event answer that faults the arm (R38, R39). -/
theorem State.eventEnd_faults (ha : (s.arm i).active = true) (hc : ¬ (more = true ∧ (s.presence i p).taken < 3))
    (hg : ¬ s.goesOnBehind i p record (s.presence i p).assign) {t : State}
    (ht : t = s.eventEnd i p toggle more record tr) :
    t.arm i = s.faultedArm i { s.arm i with fifo := tr.fifo, shape := tr.shape, doze := tr.doze } ∧
      t.notices.alerts = raiseAlert tr.heard (.armFault i) := by
  rw [ht, State.eventEnd_leaves hc, State.answeredLeft_leftAt.faults ha hg, State.faulted, State.armAndAlerts_arm,
    State.armAndAlerts_alerts, State.answeredLeft_alerts]
  cases i <;> exact ⟨rfl, rfl⟩

/-- What stands behind an event answer where the arm goes on, the visit or the rotation (R15, R28 to R30). -/
theorem State.eventEnd_goesOn (hrun : (s.arm i).phase = .running) (hpos : (s.arm i).position = p)
    (hpass : (s.arm i).pass = .visiting true)
    (hg : (more = true ∧ (s.presence i p).taken < 3) ∨ s.goesOnBehind i p record (s.presence i p).assign) {t : State}
    (ht : t = s.eventEnd i p toggle more record tr) :
    t.notices.alerts = tr.heard ∧ (t.arm i).line = .free ∧ (t.arm i).phase = .running ∧
      (t.arm i).effects = (s.arm i).effects ∧ s.othersKept t i p ∧
      t.presence i p = { (s.presence i p).eventTaken toggle with taken := (t.presence i p).taken } ∧
      (more = true ∧ (s.presence i p).taken < 3 → (t.arm i).pass = .visiting true ∧ (t.arm i).position = p ∧
        (t.presence i p).taken = (s.presence i p).taken + 1) ∧
      (¬ (more = true ∧ (s.presence i p).taken < 3) → s.visitOver t i p ∧
        s.waitsBehind t i p record (s.presence i p).assign) := by
  have ha : (s.arm i).active = true := by simp [Arm.active, hrun]
  by_cases hc : more = true ∧ (s.presence i p).taken < 3
  · rw [State.eventEnd_stays hc] at ht
    have arm : t.arm i = s.answeredArm i p toggle record tr := by rw [ht, State.answered_arm]
    have self : t.presence i p = (s.presence i p).eventTaken toggle := by
      simp [State.presence, arm, State.answeredArm]
    have pass : (t.arm i).pass = .visiting true := by rw [arm]; exact hpass
    refine ⟨by rw [ht, State.answered_alerts], by rw [arm]; rfl, by rw [arm]; exact hrun, by rw [arm]; rfl,
      fun q hq => ?_, by rw [self], fun _ => ⟨pass, by rw [arm]; exact hpos, ?_⟩, fun hn => absurd hc hn⟩
    · rw [if_neg (by simp [pass])]
      simp [State.presence, arm, State.answeredArm, Fin.val_ne_of_ne hq.symm]
    · rw [self, PresenceRec.eventTaken, if_pos (by omega)]
  · have hg := hg.resolve_left hc
    have left := State.answeredLeft_leftAt (s := s) (i := i) (p := p) (toggle := toggle) (record := record) (tr := tr)
    rw [State.eventEnd_leaves hc] at ht
    obtain ⟨heq, moved⟩ := left.goesOn ha hg
    obtain ⟨line, -, effects, -⟩ := moved.kept
    refine ⟨?_, ?_, ?_, ?_, ?_, ?_, fun h => absurd h hc, fun _ => ?_⟩ <;> rw [ht]
    · rw [heq, State.withArm_notices, State.answeredLeft_alerts]
    · rw [line, left.line]
    · exact moved.running (left.phase.trans hrun)
    · rw [effects, left.effects]
    · exact left.othersKept ha hg
    · rcases left.presence_kept ha hg with h | h <;> rw [h]
    · exact ⟨left.visitOver ha hg, left.waitsBehind⟩

end EventEnd

/-- Settles O58: the answer's own effects, then the visit that goes on, or its end. -/
theorem eventAnswersAreTakenOnce : Obligations.EventAnswersAreTakenOnce := by
  intro s i p fromPresent frame e toggle more fresh fits taken goesOn record hs hrun hl hpos hpass hst hfresh hfits htaken
    hrecord hgoes
  have active : (s.arm i).active = true := by simp [Arm.active, hrun]
  obtain ⟨tr, trace, answer⟩ := exec_event (e := e) (toggle := toggle) (more := more) (record := record) hs hl hpos hpass
    hst (by simp [hrecord, RotationRecord.afterPoll])
  have trace : tr.Of s (s.backAlerts i p) i p e taken (fresh ∧ ¬ fits) := by
    rw [htaken, hfresh, hfits]
    exact trace
  obtain ⟨t, ht⟩ : ∃ t, t = s.eventEnd i p toggle more record tr := ⟨_, rfl⟩
  rw [← ht] at answer
  obtain ⟨frameEq, away⟩ := State.eventEnd_frame ht
  obtain ⟨fifo, framing, check, shape, stray, doze⟩ := State.eventEnd_counts active ht
  have goes (hg : goesOn) := State.eventEnd_goesOn hrun hpos hpass (hgoes.mp hg) ht
  have faults (hg : ¬ goesOn) := by
    rw [hgoes, not_or] at hg
    exact State.eventEnd_faults active hg.1 hg.2 ht
  have later : more = false ∨ 3 ≤ (s.presence i p).taken ↔ ¬ (more = true ∧ (s.presence i p).taken < 3) := by
    rw [not_and_or, Bool.not_eq_true, not_lt]
  refine ⟨t, answer, frameEq, fun h => by rw [fifo, trace.fifo_taken h], fun h => by rw [fifo, trace.fifo_kept h],
    fun h => by rw [shape, trace.shape_misfit h], fun h => by rw [shape, trace.shape_kept h], framing, check, stray,
    fun h => ?_, fun h => ?_, ?_, fun hg => ?_, fun hg => ?_⟩
  · obtain ⟨h1, h2, -⟩ := trace.woken h
    have off (x : Arm) : x.dozeOff.doze = false := by cases hd : x.doze <;> simp [Arm.dozeOff, hd]
    have here : (t.arm i).doze = false := by rw [doze, h1]
    have there : (t.arm (ArmId.other i)).doze = false := by rw [away, h2, off]
    refine ⟨?_, ?_, by rw [away, h2]⟩ <;> cases i <;> assumption
  · obtain ⟨h1, h2, -⟩ := trace.asleep h
    exact ⟨by rw [doze, h1], by rw [away, h2]⟩
  · intro back heard hback hwake hasleep
    have hback : back = s.backAlerts i p := hback
    have heardEq : heard = tr.heard := by
      by_cases h : taken ∧ (s.arm i).doze = true
      · rw [hwake h, (trace.woken h).2.2, hback]
      · rw [hasleep h, (trace.asleep h).2.2, hback]
    subst heardEq
    refine ⟨fun hg => (goes hg).1, fun hg => (faults hg).2, ?_⟩
    rintro x u hx rfl
    have hx : x = s.answeredArm i p toggle record tr := by
      rw [hx, fifo, shape, doze]
      rfl
    rw [hx, State.answered_eq away]
    exact ⟨fun h1 h2 => by rw [ht, State.eventEnd_stays ⟨h1, h2⟩], fun h => by
      rw [ht, State.eventEnd_leaves (later.mp h), State.answeredLeft]⟩
  · obtain ⟨-, line, phase, effects, others, self, stays, leaves⟩ := goes hg
    rw [later]
    refine ⟨line, phase, effects, ?_, ?_, ?_, ?_, others, fun h1 h2 => stays ⟨h1, h2⟩, leaves⟩ <;> rw [self] <;> rfl
  · rw [fifo, shape, doze]
    exact (faults hg).1

end Sys2Proof.Machine
end

section
/-! TILE-WRITE: what the record and the arm become, and the rotation behind it (R3 to R7, R10, R28). -/

namespace Sys2Proof.Machine

open Sys2Proof

/-! ### The record, the line and the arm after a write -/

/-- Exclusion decides first, then the kind, then the zone (R4 to R6). -/
theorem PresenceRec.rewritten_eq (r : PresenceRec) (old new : TileRec) : r.rewritten old new =
    (if new.excluded = true ∧ old.excluded = false then ⟨.excluded, 0, true, 0, false⟩
     else if new.excluded = false ∧ (old.excluded = true ∨ new.kind ≠ old.kind) then ⟨.unknown, 0, true, 0, false⟩
     else if r.state = .present ∧ new.kind = old.kind ∧ new.zone ≠ old.zone then { r with assign := true }
     else r) := by
  have fresh (st : Presence) : PresenceRec.fresh st = ⟨st, 0, true, 0, false⟩ := rfl
  unfold PresenceRec.rewritten
  simp only [fresh]
  cases new.excluded <;> cases old.excluded <;> by_cases hk : new.kind = old.kind <;> simp [hk]

/-- A write changes the excluded or the kind field (R7). -/
theorem TileRec.retyped_iff (old new : TileRec) :
    old.retyped new = true ↔ new.excluded ≠ old.excluded ∨ new.kind ≠ old.kind := by
  simp only [TileRec.retyped, Bool.or_eq_true, bne_iff_ne, ne_comm]

section ArmRewritten

variable (x : Arm) (p : Fin 32) (old new : TileRec)

/-- The arm with the presence record and the line as a write leaves them, before its visit is looked at (R4 to R7). -/
def Arm.recordRewritten : Arm :=
  { x with
    presence := x.presence.set p ((x.presence[p]).rewritten old new)
    line := x.line.rewritten p (old.retyped new)
      ((x.presence[p]).state == .present && ((x.presence[p]).rewritten old new).state == .present &&
        new.zone != old.zone) }

/-- The write changes the state of the position that the pass visits (R28). -/
def Arm.visitUpset : Prop :=
  x.position = p ∧ ((x.presence[p]).rewritten old new).state ≠ (x.presence[p]).state ∧ ∃ polled, x.pass = .visiting polled

/-- A write that upsets the visit ends it, or before its first poll has the pass decide again; no other write moves the
pass (R28; log 9). -/
theorem Arm.rewrite_cases :
    (¬ x.visitUpset p old new ∧ x.rewrite p old new = x.recordRewritten p old new) ∨
    (x.visitUpset p old new ∧ x.pass = .visiting true ∧ x.rewrite p old new = (x.recordRewritten p old new).leave) ∨
    (x.visitUpset p old new ∧ x.pass = .visiting false ∧
      x.rewrite p old new = { x.recordRewritten p old new with pass := .reaching }) := by
  generalize hy : x.rewrite p old new = y
  unfold Arm.rewrite at hy
  simp only [] at hy
  split at hy
  · rename_i upset
    simp only [Bool.and_eq_true, decide_eq_true_eq, bne_iff_ne] at upset
    have visited {polled : Bool} (hp : x.pass = .visiting polled) : x.visitUpset p old new :=
      ⟨upset.1, Ne.symm upset.2, polled, hp⟩
    split at hy
    · next hp => exact .inr (.inl ⟨visited hp, hp, hy.symm⟩)
    · next hp => exact .inr (.inr ⟨visited hp, hp, hy.symm⟩)
    all_goals
      next hp => exact .inl ⟨fun ⟨_, _, _, hv⟩ => Pass.noConfusion (hp.symm.trans hv), hy.symm⟩
  · rename_i kept
    simp only [Bool.and_eq_true, decide_eq_true_eq, bne_iff_ne] at kept
    exact .inl ⟨fun ⟨hp, hs, _⟩ => kept ⟨hp, hs.symm⟩, hy.symm⟩

/-- Where the pass moves to does not depend on the record and the line, and they not on it. -/
theorem Arm.rewrite_frame : x.rewrite p old new = { x.recordRewritten p old new with
    pass := (x.rewrite p old new).pass, position := (x.rewrite p old new).position } := by
  rcases x.rewrite_cases p old new with ⟨-, h⟩ | ⟨-, -, h⟩ | ⟨-, -, h⟩
  · rw [h]
  · rw [h, Arm.leave_eq]
  · rw [h]

theorem Arm.rewrite_presence :
    (x.rewrite p old new).presence = x.presence.set p ((x.presence[p]).rewritten old new) := by
  rw [x.rewrite_frame p old new]
  rfl

theorem Arm.rewrite_line : (x.rewrite p old new).line = (x.recordRewritten p old new).line := by
  rw [x.rewrite_frame p old new]

end ArmRewritten

/-! ### The write and what the rotation does not see -/

/-- The engine is nothing to the rotation. -/
theorem State.unseen_withEngine (i : ArmId) (e : Engine) : State.Unseen i (fun s => s.withEngine e) id where
  arm t := t.withEngine_arm e i
  withArm t x := by cases i <;> rfl
  faultArm t := by cases i <;> rfl
  reach _ := rfl
  startRotation _ := rfl
  enumerated _ := rfl
  rotated _ := rfl
  tests _ := ⟨rfl, rfl, rfl, rfl, rfl, rfl, rfl⟩

@[simp] theorem State.bring_engine (t : State) (i : ArmId) : (t.bring i).engine = t.engine := by
  rw [State.bring_frame]
  cases i <;> rfl

theorem State.take_bring (t : State) (i : ArmId) (w : WorkItem) : (t.take w).bring i = (t.bring i).take w := by
  have commutes := (State.unseen_withEngine i { t.engine with inFlight := some w }).bring t
  rw [State.take, State.take, State.bring_engine]
  exact commutes.symm

/-- The count of writes is nothing to the rotation. -/
theorem State.unseen_withTileWrites (i : ArmId) (n : Nat) : State.Unseen i (fun s => s.withTileWrites n) id where
  arm t := t.withTileWrites_arm n i
  withArm t x := by cases i <;> rfl
  faultArm t := by cases i <;> rfl
  reach _ := rfl
  startRotation _ := rfl
  enumerated _ := rfl
  rotated _ := rfl
  tests _ := ⟨rfl, rfl, rfl, rfl, rfl, rfl, rfl⟩

section TileWrite

variable (s : State) (i : ArmId) (p : Fin 32) (new : TileRec)

/-- The state with a record stored and its arm rewritten, and the write counted (R3 to R7). -/
def State.tileStored : State :=
  ((s.withTileMap (s.tileMap.set (tileIndex i p) new)).withArm i ((s.arm i).rewrite p (s.mapRec i p) new)).withTileWrites
    (s.tileWrites + 1)

@[simp] theorem State.tileStored_arm : (s.tileStored i p new).arm i = (s.arm i).rewrite p (s.mapRec i p) new := by
  simp [State.tileStored]

@[simp] theorem State.tileStored_engine : (s.tileStored i p new).engine = s.engine := by simp [State.tileStored]

theorem State.take_tileStored (w : WorkItem) : (s.take w).tileStored i p new = (s.tileStored i p new).take w := by
  cases i <;> rfl

/-- The write of an item is the stored record, the rotation brought to where it stands unless a frame is on the pair. -/
theorem State.tileWritten_eq (onPair : Bool) :
    (s.tileWritten onPair (tileIndex i p) new).withTileWrites (s.tileWrites + 1) =
      if onPair then s.tileStored i p new else (s.tileStored i p new).bring i := by
  unfold State.tileWritten
  simp only [indexArm_tileIndex, indexPosition_tileIndex]
  cases onPair with
  | true => rfl
  | false => exact (State.unseen_withTileWrites i _).bring _

theorem tileWriteItem_eq {body : List Byte} (hb : parseTileWrite body = some (tileIndex i p, new)) :
    tileWriteItem body s = (if Config.frameOnPair s.tileWrites = true then s.tileStored i p new
      else (s.tileStored i p new).bring i, Reply.done 0x09 []) := by
  rw [← State.tileWritten_eq]
  simp only [tileWriteItem, hb]

/-- A TILE-WRITE that is served (R3 to R7, R174). -/
theorem exec_tileWrite {body : List Byte} (hs : s.serving 0x09 body)
    (hb : parseTileWrite body = some (tileIndex i p, new)) :
    exec (.tileWrite body) s = .next ((if Config.frameOnPair s.tileWrites = true then s.tileStored i p new
      else (s.tileStored i p new).bring i).replying 0x09 .ok []) := by
  have idle : s.engine.inFlight = none := hs.2.1
  simp only [exec, execTileWrite, serveItem, State.mayServe_of_serving hs, tileWriteItem_eq _ i p new hb, if_true,
    State.take_tileWrites, State.take_tileStored, State.take_bring]
  split
  · rw [State.take_endItem _ _ (by simpa using idle)]
    rfl
  · rw [State.take_endItem _ _ (by simpa using idle)]
    rfl

end TileWrite

section Stored

variable {s : State} {i : ArmId} {p : Fin 32} {new : TileRec}

theorem State.tileStored_presence_self :
    (s.tileStored i p new).presence i p = (s.presence i p).rewritten (s.mapRec i p) new := by
  simp [State.presence, Arm.rewrite_presence]

theorem State.tileStored_presence_ne {q : Fin 32} (h : q ≠ p) :
    (s.tileStored i p new).presence i q = s.presence i q := by
  have hv : p.val ≠ q.val := fun e => h (Fin.ext e.symm)
  simp [State.presence, Arm.rewrite_presence, Vector.getElem_set_ne _ _ hv]

theorem State.tileStored_line : ((s.tileStored i p new).arm i).line =
    (s.arm i).line.rewritten p ((s.mapRec i p).retyped new)
      ((s.presence i p).state == .present && ((s.tileStored i p new).presence i p).state == .present &&
        new.zone != (s.mapRec i p).zone) := by
  rw [State.tileStored_presence_self, State.tileStored_arm, Arm.rewrite_line]
  rfl

/-- A poll on the pair ends with its window open exactly where the write retypes its position (R7). -/
theorem State.tileStored_poll {poll : Poll} {frame : List Byte} (h : (s.arm i).line = .poll poll frame) :
    ((s.tileStored i p new).arm i).line =
      if poll.position = p ∧ (new.excluded ≠ (s.mapRec i p).excluded ∨ new.kind ≠ (s.mapRec i p).kind) then .lapsed
      else .poll poll frame := by
  rw [State.tileStored_line, h]
  simp only [Line.rewritten, ← TileRec.retyped_iff, Bool.and_eq_true, decide_eq_true_eq]

/-- An ASSIGN on the pair is owed again exactly where the write changes the zone of its PRESENT position (R10). -/
theorem State.tileStored_assign {q : Fin 32} {frame : List Byte} {again : Bool}
    (h : (s.arm i).line = .assign q frame again) :
    ∃ owed, ((s.tileStored i p new).arm i).line = .assign q frame owed ∧
      (owed = true ↔ again = true ∨ (q = p ∧ (s.presence i p).state = .present ∧
        ((s.tileStored i p new).presence i p).state = .present ∧ new.zone ≠ (s.mapRec i p).zone)) := by
  rw [State.tileStored_line, h]
  refine ⟨_, rfl, ?_⟩
  simp only [Bool.or_eq_true, Bool.and_eq_true, beq_iff_eq, bne_iff_ne, and_assoc]

/-- Any other line is none of the write's concern (R7, R10). -/
theorem State.tileStored_otherLine (hpoll : ∀ poll frame, (s.arm i).line ≠ .poll poll frame)
    (hassign : ∀ q frame again, (s.arm i).line ≠ .assign q frame again) :
    ((s.tileStored i p new).arm i).line = (s.arm i).line := by
  rw [State.tileStored_line]
  cases hl : (s.arm i).line with
  | poll poll frame => exact absurd hl (hpoll poll frame)
  | assign q frame again => exact absurd hl (hassign q frame again)
  | free | lapsed | effect frame held => rfl

theorem State.tileStored_arm_frame : (s.tileStored i p new).arm i = { s.arm i with
    presence := ((s.tileStored i p new).arm i).presence, line := ((s.tileStored i p new).arm i).line,
    pass := ((s.tileStored i p new).arm i).pass, position := ((s.tileStored i p new).arm i).position } := by
  have frame := (s.arm i).rewrite_frame p (s.mapRec i p) new
  rw [← State.tileStored_arm] at frame
  rw [frame]
  rfl

theorem State.tileStored_active : ((s.tileStored i p new).arm i).active = (s.arm i).active := by
  rw [State.tileStored_arm_frame]
  rfl

theorem State.visitUpset_iff : (s.arm i).visitUpset p (s.mapRec i p) new ↔
    (s.arm i).position = p ∧ ((s.tileStored i p new).presence i p).state ≠ (s.presence i p).state ∧
      ∃ polled, (s.arm i).pass = .visiting polled := by
  rw [State.tileStored_presence_self]
  rfl

/-- A write that upsets no visit leaves the rotation where it is (R28). -/
theorem State.tileStored_rotationKept (h : (s.arm i).position ≠ p ∨
      ((s.tileStored i p new).presence i p).state = (s.presence i p).state ∨
      (∀ polled, (s.arm i).pass ≠ .visiting polled)) :
    ((s.tileStored i p new).arm i).position = (s.arm i).position ∧
      ((s.tileStored i p new).arm i).pass = (s.arm i).pass := by
  have kept : ¬ (s.arm i).visitUpset p (s.mapRec i p) new := by
    rw [State.visitUpset_iff]
    rintro ⟨hp, hs, polled, hv⟩
    exact h.elim (· hp) (·.elim hs (· polled hv))
  rw [State.tileStored_arm]
  rcases (s.arm i).rewrite_cases p (s.mapRec i p) new with ⟨-, h⟩ | ⟨upset, -⟩ | ⟨upset, -⟩
  · rw [h]
    exact ⟨rfl, rfl⟩
  · exact absurd upset kept
  · exact absurd upset kept

/-- A write that upsets a visit ends it, or before its first poll has the pass decide again (R28; log 9). -/
theorem State.tileStored_rotationUpset (hp : (s.arm i).position = p)
    (hs : ((s.tileStored i p new).presence i p).state ≠ (s.presence i p).state) :
    ((s.arm i).pass = .visiting true →
      (p.val < 31 → ((s.tileStored i p new).arm i).position.val = p.val + 1 ∧
        ((s.tileStored i p new).arm i).pass = .reaching) ∧
      (p.val = 31 → ((s.tileStored i p new).arm i).position = p ∧ ((s.tileStored i p new).arm i).pass = .ended)) ∧
    ((s.arm i).pass = .visiting false →
      ((s.tileStored i p new).arm i).position = p ∧ ((s.tileStored i p new).arm i).pass = .reaching) := by
  have upset {polled : Bool} (hv : (s.arm i).pass = .visiting polled) : (s.arm i).visitUpset p (s.mapRec i p) new :=
    State.visitUpset_iff.mpr ⟨hp, hs, polled, hv⟩
  have position : ((s.arm i).recordRewritten p (s.mapRec i p) new).position = p := hp
  rw [State.tileStored_arm]
  rcases (s.arm i).rewrite_cases p (s.mapRec i p) new with ⟨kept, -⟩ | ⟨-, hv, h⟩ | ⟨-, hv, h⟩
  · exact ⟨fun hv => absurd (upset hv) kept, fun hv => absurd (upset hv) kept⟩
  · rw [h, Arm.leave_eq, position]
    refine ⟨fun _ => ⟨fun hlt => ?_, fun heq => ?_⟩, fun hf => absurd (hv.symm.trans hf) (by simp)⟩
    · simp [show p.val + 1 < 32 by omega]
    · simp [show ¬ p.val + 1 < 32 by omega]
  · rw [h]
    exact ⟨fun ht => absurd (hv.symm.trans ht) (by simp), fun _ => ⟨position, rfl⟩⟩

end Stored

/-- Settles O28: the state with the record stored is taken apart piece by piece; the rotation is brought from there. -/
theorem tileWriteMovesOnePosition : Obligations.TileWriteMovesOnePosition := by
  intro s body hs
  refine ⟨?_, fun hb => ?_⟩
  · intro i p new hb
    refine ⟨s.tileStored i p new, exec_tileWrite s i p new hs (parseTileWrite_eq_some.mpr hb),
      fun h => State.bring_stays _ i ?_, ?_, ?_, fun q hq => State.tileStored_presence_ne hq, State.tileStored_arm_frame,
      fun _ _ => State.tileStored_poll, fun _ _ _ => State.tileStored_assign, State.tileStored_otherLine,
      State.tileStored_rotationKept, State.tileStored_rotationUpset⟩
    · rwa [State.tileStored_active]
    · rw [State.tileStored_arm]
      rfl
    · rw [State.tileStored_presence_self, PresenceRec.rewritten_eq]
  · have none : parseTileWrite body = none := Option.eq_none_iff_forall_ne_some.mpr fun ⟨k, r⟩ h =>
      hb ⟨indexArm k, indexPosition k, r, by rw [tileIndex_index]; exact parseTileWrite_eq_some.mp h⟩
    simp only [exec, execTileWrite, serveItem, State.mayServe_of_serving hs, tileWriteItem, none, if_true]
    rw [State.take_endItem _ _ hs.2.1]
    rfl

end Sys2Proof.Machine
end

section
/-! Presence records and the map: which operations leave both alone, and which keep them in agreement (R4 to R16). -/

namespace Sys2Proof.Machine

open Sys2Proof

/-! ### What the presence records and the map are to the other operations -/

/-- The presence records of both arms and the tile map. -/
def State.presenceView (s : State) : Vector PresenceRec 32 × Vector PresenceRec 32 × Vector TileRec 64 :=
  (s.armA.presence, s.armB.presence, s.tileMap)

section View

variable (s : State)

@[simp] theorem State.presenceView_withEngine (x : Engine) : (s.withEngine x).presenceView = s.presenceView := rfl
@[simp] theorem State.presenceView_withTimers (x : Vector Timer 16) : (s.withTimers x).presenceView = s.presenceView := rfl
@[simp] theorem State.presenceView_withMemory (x : RuleMemory) : (s.withMemory x).presenceView = s.presenceView := rfl
@[simp] theorem State.presenceView_withNotices (x : Notices) : (s.withNotices x).presenceView = s.presenceView := rfl
@[simp] theorem State.presenceView_withUplink (x : Uplink) : (s.withUplink x).presenceView = s.presenceView := rfl
@[simp] theorem State.presenceView_withHandler (x : Handler) : (s.withHandler x).presenceView = s.presenceView := rfl
@[simp] theorem State.presenceView_withPending (x : List Instr) : (s.withPending x).presenceView = s.presenceView := rfl
@[simp] theorem State.presenceView_withTileWrites (n : Nat) : (s.withTileWrites n).presenceView = s.presenceView := rfl
@[simp] theorem State.presenceView_raise (al : Alert) : (s.raise al).presenceView = s.presenceView := rfl
@[simp] theorem State.presenceView_notify (n : QuestNotice) : (s.notify n).presenceView = s.presenceView := rfl
@[simp] theorem State.presenceView_placeEcho (e : Echo) : (s.placeEcho e).presenceView = s.presenceView := rfl
@[simp] theorem State.presenceView_withQuest (q : Fin 16) (x : Quest) : (s.withQuest q x).presenceView = s.presenceView := rfl
@[simp] theorem State.presenceView_withTimer (q : Fin 16) (x : Timer) : (s.withTimer q x).presenceView = s.presenceView := rfl
@[simp] theorem State.presenceView_withRule (i : Fin 256) (r : RuleState) : (s.withRule i r).presenceView = s.presenceView :=
  rfl
@[simp] theorem State.presenceView_take (w : WorkItem) : (s.take w).presenceView = s.presenceView := rfl
@[simp] theorem State.presenceView_endItem : s.endItem.presenceView = s.presenceView := rfl
@[simp] theorem State.presenceView_spendAsides : s.spendAsides.presenceView = s.presenceView := rfl
@[simp] theorem State.presenceView_startTimer (q : Fin 16) (t : Half) : (s.startTimer q t).presenceView = s.presenceView := rfl
@[simp] theorem State.presenceView_stopTimer (q : Fin 16) : (s.stopTimer q).presenceView = s.presenceView := rfl
@[simp] theorem State.presenceView_endQuest (q : Fin 16) (st : QuestState) (r : EndReason) :
    (s.endQuest q st r).presenceView = s.presenceView := rfl
@[simp] theorem State.presenceView_begin (source : TxSource) (line : List Byte) :
    (s.begin source line).presenceView = s.presenceView := rfl
@[simp] theorem State.presenceView_garble (next : RxState) : (s.garble next).presenceView = s.presenceView := rfl
@[simp] theorem State.presenceView_writeRule (i : Fin 256) (e : BitVec 233) (r : RuleState) :
    (s.writeRule i e r).presenceView = s.presenceView := rfl

theorem State.presenceView_raiseOpt (al : Option Alert) : (s.raiseOpt al).presenceView = s.presenceView := by
  cases al <;> rfl

theorem State.presenceView_withArm {i : ArmId} {x : Arm} (h : x.presence = (s.arm i).presence) :
    (s.withArm i x).presenceView = s.presenceView := by
  cases i with
  | a => exact congrArg (·, s.armB.presence, s.tileMap) h
  | b => exact congrArg (s.armA.presence, ·, s.tileMap) h

@[simp] theorem State.presenceView_activate (q : Fin 16) : (s.activate q).presenceView = s.presenceView := by
  unfold State.activate
  simp only []
  split <;> rfl

/-- An effect entry that joins a queue is nothing to the presence records (R51). -/
@[simp] theorem State.presenceView_enqueue (i : ArmId) (e : EffectEntry) : (s.enqueue i e).presenceView = s.presenceView := by
  rcases s.enqueue_cases i e with ⟨-, h⟩ | ⟨-, h⟩ <;> rw [h]
  exact s.presenceView_withArm rfl

@[simp] theorem presenceView_checkedRead (found : FoundBy) (i : Fin 256) :
    (checkedRead found i s).1.presenceView = s.presenceView := by
  rcases checkedRead_cases found i s with ⟨-, h⟩ | ⟨p, -, h⟩ | ⟨-, h⟩ <;> rw [h]
  · rfl
  · obtain ⟨armA, armB, tileMap, -⟩ := s.noteLost_frame found i
    simp only [State.presenceView, armA, armB, tileMap]

@[simp] theorem State.presenceView_tickTimer (q : Fin 16) : (s.tickTimer q).presenceView = s.presenceView := by
  unfold State.tickTimer
  simp only []
  split
  · split <;> rfl
  · rfl

theorem State.presenceView_tickAll (l : List (Fin 16)) : (s.tickAll l).presenceView = s.presenceView := by
  induction l generalizing s with
  | nil => rfl
  | cons q rest ih => rw [State.tickAll, ih, State.presenceView_tickTimer]

/-! The uplink port (R165 to R173). -/

@[simp] theorem State.presenceView_startFrame : s.startFrame.presenceView = s.presenceView := by
  rcases s.startFrame_cases with ⟨r, -, h⟩ | ⟨-, ⟨e, rest, -, h⟩ | ⟨-, n, rest, -, h⟩ | ⟨-, -, e, rest, -, h⟩ | ⟨-, -, -, h⟩⟩ <;>
    rw [h] <;> rfl

@[simp] theorem State.presenceView_endFrame : s.endFrame.presenceView = s.presenceView := by
  unfold State.endFrame
  split <;> simp

@[simp] theorem State.presenceView_storeByte (b : Byte) : (s.storeByte b).presenceView = s.presenceView := by
  unfold State.storeByte
  simp only []
  repeat' split
  all_goals simp

@[simp] theorem State.presenceView_contentByte (b : Byte) : (s.contentByte b).presenceView = s.presenceView := by
  unfold State.contentByte
  repeat' split
  all_goals simp

@[simp] theorem State.presenceView_frameByte (b : Byte) (stopOk : Bool) :
    (s.frameByte b stopOk).presenceView = s.presenceView := by
  unfold State.frameByte
  simp only []
  repeat' split
  all_goals simp

@[simp] theorem State.presenceView_hostGo : s.hostGo.presenceView = s.presenceView := by
  unfold State.hostGo
  simp only []
  split <;> simp

/-- A received byte is nothing to the presence records (R165). -/
theorem State.presenceView_receive (b : Byte) (stopOk : Bool) : (s.receive b stopOk).presenceView = s.presenceView := by
  unfold State.receive State.hostHold
  repeat' split
  all_goals simp

theorem State.presenceView_frameSent (source : TxSource) : (s.frameSent source).presenceView = s.presenceView := by
  cases source with
  | reply | alert => rfl
  | quest held | event held => cases held <;> rfl

end View

end Sys2Proof.Machine
end

section
/-! The presence records stay legal for the map through the rotation, the answers and the direct requests
(R4 to R16). -/

namespace Sys2Proof.Machine

open Sys2Proof

/-! ### One record -/

section Record

variable {r : PresenceRec} {m : TileRec}

/-- A fresh record is legal wherever the map agrees about the exclusion (R9). -/
theorem PresenceRec.fresh_soundFor {st : Presence} (h : st = if m.excluded = true then .excluded else .unknown) :
    (PresenceRec.fresh st).soundFor m := by
  cases hm : m.excluded <;> simp [h, hm, PresenceRec.fresh, PresenceRec.soundFor]

theorem freshPresence_soundFor (m : TileRec) : (freshPresence m).soundFor m :=
  PresenceRec.fresh_soundFor rfl

/-- The count of events taken within its limit keeps a record legal (R28). -/
theorem PresenceRec.soundFor.withTaken (h : r.soundFor m) {n : Nat} (hn : n ≤ 4) : { r with taken := n }.soundFor m := by
  obtain ⟨excluded, assign, misses, -, absent, unknown⟩ := h
  exact ⟨excluded, assign, misses, hn, absent, unknown⟩

theorem PresenceRec.soundFor.withToggle (h : r.soundFor m) (v : Bool) : { r with toggle := v }.soundFor m := h

theorem PresenceRec.soundFor.assignSent (h : r.soundFor m) : { r with assign := false }.soundFor m := by
  obtain ⟨excluded, -, rest⟩ := h
  exact ⟨excluded, by simp, rest⟩

/-- Cleared misses keep the record of a position that is not ABSENT legal (R13, R15). -/
theorem PresenceRec.soundFor.missesCleared (h : r.soundFor m) (hne : r.state ≠ .absent) :
    { r with misses := 0 }.soundFor m := by
  obtain ⟨excluded, assign, -, taken, -, -⟩ := h
  exact ⟨excluded, assign, by simp, taken, fun ha => absurd ha hne, fun _ => by simp⟩

/-- A tile that answers again makes its position PRESENT (R15). -/
theorem PresenceRec.soundFor.back (h : r.soundFor m) (hst : r.state = .absent) :
    { r with state := .present, misses := 0 }.soundFor m := by
  obtain ⟨excluded, -, -, taken, -, -⟩ := h
  have included : ¬ m.excluded = true := fun hm => by simp [excluded.mpr hm] at hst
  exact ⟨by simpa using included, fun _ => rfl, by simp, taken, by simp, by simp⟩

/-- A HELLO decides the presence of any position but an EXCLUDED one (R11). -/
theorem PresenceRec.soundFor.greeted (h : r.soundFor m) (hne : r.state ≠ .excluded) (same : Bool) :
    (r.greeted same).soundFor m := by
  have included : ¬ m.excluded = true := fun hm => hne (h.1.mpr hm)
  cases same <;> simpa [PresenceRec.greeted, PresenceRec.soundFor] using included

/-- A miss keeps the record legal: the count stops at three, where the position is not UNKNOWN any more (R12 to R14). -/
theorem PresenceRec.soundFor.missed (h : r.soundFor m) : r.missed.soundFor m := by
  obtain ⟨excluded, assign, misses, taken, absent, unknown⟩ := h
  have count : saturate 3 r.misses ≤ 3 := saturate_le 3 _ misses
  unfold PresenceRec.missed Config.missLimit
  cases hst : r.state with
  | excluded => exact ⟨excluded, assign, misses, taken, absent, unknown⟩
  | unknown =>
    rw [hst] at excluded assign
    by_cases h3 : saturate 3 r.misses = 3
    · rw [h3]
      exact ⟨by simpa using excluded, by simpa using assign, by simp, taken, by simp, by simp⟩
    · refine ⟨by simpa [h3] using excluded, by simpa [h3] using assign, count, taken, by simp [h3], fun _ => ?_⟩
      exact Nat.lt_of_le_of_ne count h3
  | present =>
    rw [hst] at excluded
    by_cases h3 : saturate 3 r.misses = 3
    · simpa [PresenceRec.soundFor, h3] using excluded
    · simpa [PresenceRec.soundFor, h3, hst, taken, count] using excluded
  | absent =>
    have third := absent hst
    rw [hst] at excluded assign
    simpa [PresenceRec.soundFor, hst, taken, third, saturate, excluded] using assign
  | mismatch =>
    rw [hst] at excluded assign
    simpa [PresenceRec.soundFor, hst, taken, count, excluded] using assign

/-- A TILE-WRITE leaves the record legal for the new map record (R4 to R6). -/
theorem PresenceRec.soundFor.rewritten (h : r.soundFor m) (new : TileRec) : (r.rewritten m new).soundFor new := by
  obtain ⟨excluded, assign, misses, taken, absent, unknown⟩ := h
  rw [PresenceRec.rewritten_eq]
  split
  · next out => exact PresenceRec.fresh_soundFor (by rw [if_pos out.1])
  · next stays =>
    split
    · next retyped => exact PresenceRec.fresh_soundFor (by simp [retyped.1])
    · next kept =>
      have same : new.excluded = m.excluded := by
        cases hn : new.excluded <;> cases hm : m.excluded <;> simp_all
      rw [← same] at excluded
      split
      · next rezoned => exact ⟨excluded, fun _ => rezoned.1, misses, taken, absent, unknown⟩
      · exact ⟨excluded, assign, misses, taken, absent, unknown⟩

end Record

/-! ### The state -/

section Sound

variable {s t : State} {i : ArmId}

theorem State.presenceSound_of_view (hs : s.presenceSound) (h : t.presenceView = s.presenceView) : t.presenceSound := by
  simp only [State.presenceView, Prod.mk.injEq] at h
  obtain ⟨armA, armB, tileMap⟩ := h
  have arms (j : ArmId) : (t.arm j).presence = (s.arm j).presence := by
    cases j with
    | a => exact armA
    | b => exact armB
  intro j p
  have := hs j p
  simp only [State.presence, State.mapRec, arms, tileMap] at this ⊢
  exact this

/-- The presence records of an arm are legal for the map. -/
def Arm.presenceSoundIn (x : Arm) (s : State) (i : ArmId) : Prop := ∀ p : Fin 32, (x.presence[p]).soundFor (s.mapRec i p)

theorem State.presenceSound_withArm {x : Arm} (hs : s.presenceSound) (hx : x.presenceSoundIn s i) :
    (s.withArm i x).presenceSound := by
  intro j p
  by_cases hj : j = i
  · subst hj
    simpa [State.presence, State.mapRec] using hx p
  · simpa [State.presence, State.mapRec, State.withArm_arm_ne s i j x hj] using hs j p

theorem State.presenceSoundIn_of_presence {x : Arm} (hs : s.presenceSound) (h : x.presence = (s.arm i).presence) :
    x.presenceSoundIn s i := by
  intro p
  rw [h]
  exact hs i p

theorem State.presenceSound_withArm_kept {x : Arm} (hs : s.presenceSound) (h : x.presence = (s.arm i).presence) :
    (s.withArm i x).presenceSound :=
  State.presenceSound_withArm hs (State.presenceSoundIn_of_presence hs h)

/-- One record is replaced by a legal one. -/
theorem State.presenceSound_withArm_set {x : Arm} {p : Fin 32} {r : PresenceRec} (hs : s.presenceSound)
    (h : x.presence = (s.arm i).presence.set p r) (hr : r.soundFor (s.mapRec i p)) : (s.withArm i x).presenceSound := by
  refine State.presenceSound_withArm hs fun q => ?_
  rw [h]
  by_cases hq : q = p
  · subst hq
    simpa using hr
  · have hv : p.val ≠ q.val := fun e => hq (Fin.ext e.symm)
    simpa [State.presence, Vector.getElem_set_ne _ _ hv] using hs i q

/-- All records of an arm are reset (R9). -/
theorem State.presenceSound_withArm_reset {x : Arm} (hs : s.presenceSound) (h : x.presence = s.resetPresence i) :
    (s.withArm i x).presenceSound := by
  refine State.presenceSound_withArm hs fun p => ?_
  simpa [h, State.resetPresence] using freshPresence_soundFor (s.mapRec i p)

theorem State.presenceSound_raiseOpt (hs : s.presenceSound) (al : Option Alert) : (s.raiseOpt al).presenceSound :=
  State.presenceSound_of_view hs (s.presenceView_raiseOpt al)

theorem State.presenceSound_withHandler (hs : s.presenceSound) (h : Handler) : (s.withHandler h).presenceSound :=
  State.presenceSound_of_view hs (s.presenceView_withHandler h)

/-! ### The rotation -/

theorem State.presenceSound_faultArm (hs : s.presenceSound) (i : ArmId) : (s.faultArm i).presenceSound := by
  have reset : (s.withArm i ((s.arm i).halted .faulted (s.resetPresence i))).presenceSound :=
    State.presenceSound_withArm_reset hs rfl
  rw [State.faultArm_eq]
  exact State.presenceSound_of_view reset (State.presenceView_withNotices _ _)

/-- The visit that begins has taken no event yet (R28). -/
theorem State.presenceSound_reach (hs : s.presenceSound) (i : ArmId) : (s.withArm i (s.arm i).reach).presenceSound := by
  cases h : (s.arm i).nextStop with
  | none =>
    rw [Arm.reach_of_none h]
    exact State.presenceSound_withArm_kept hs rfl
  | some p =>
    rw [Arm.reach_of_some h]
    exact State.presenceSound_withArm_set hs rfl ((hs i p).withTaken (Nat.zero_le _))

theorem State.presenceSound_movePass (hs : s.presenceSound) (i : ArmId) : (s.movePass i).presenceSound := by
  rcases s.movePass_cases i with hm | ⟨-, hm⟩ | ⟨-, -, hm⟩ | ⟨-, -, hm⟩ | ⟨-, -, -, hm⟩ | ⟨-, -, -, hm⟩ <;> rw [hm]
  · exact hs
  · exact State.presenceSound_reach hs i
  · exact State.presenceSound_withArm_kept hs rfl
  · exact State.presenceSound_withArm_kept hs rfl
  · exact State.presenceSound_faultArm hs i
  · exact State.presenceSound_withArm_kept hs rfl

theorem State.presenceSound_movePasses (hs : s.presenceSound) (i : ArmId) (hold : Bool) (n : Nat) :
    (s.movePasses i hold n).presenceSound :=
  State.movePasses_induct State.presenceSound i (fun _ h _ _ => State.presenceSound_movePass h i) hold n s hs

theorem State.presenceSound_bring (hs : s.presenceSound) (i : ArmId) : (s.bring i).presenceSound :=
  State.presenceSound_movePasses hs i _ 6

theorem State.presenceSound_settle (hs : s.presenceSound) (i : ArmId) : (s.settle i).presenceSound :=
  State.presenceSound_movePasses hs i _ 6

/-! ### Answers and misses -/

theorem Arm.dozeOff_presence (x : Arm) : x.dozeOff.presence = x.presence := by
  unfold Arm.dozeOff
  split <;> rfl

theorem State.presenceSound_dozeOff (hs : s.presenceSound) :
    ((s.withArm .a s.armA.dozeOff).withArm .b s.armB.dozeOff).presenceSound :=
  State.presenceSound_withArm_kept (State.presenceSound_withArm_kept hs s.armA.dozeOff_presence) s.armB.dozeOff_presence

theorem State.presenceSound_wake (hs : s.presenceSound) (i : ArmId) : (s.wake i).presenceSound := by
  unfold State.wake
  split
  · exact State.presenceSound_of_view (State.presenceSound_dozeOff hs) (State.presenceView_raise _ _)
  · exact hs

theorem State.presenceSound_acceptEvent (hs : s.presenceSound) (i : ArmId) (p : Fin 32) (e : TileEvent) (toggle : Bool) :
    (s.acceptEvent i p e toggle).presenceSound := by
  have toggled {x : Arm} (h : x.presence = (s.arm i).presence.set p { s.presence i p with toggle := toggle }) :
      (s.withArm i x).presenceSound := State.presenceSound_withArm_set hs h ((hs i p).withToggle toggle)
  unfold State.acceptEvent
  simp only []
  split
  · exact State.presenceSound_wake (toggled rfl) i
  · exact toggled rfl

/-- An answer of a position that is not ABSENT clears its misses, and an event counts as taken (R28 to R31). -/
theorem State.presenceSound_answerPresent (hs : s.presenceSound) (i : ArmId) (p : Fin 32) (ans : Answer)
    (hne : (s.presence i p).state ≠ .absent) : (s.answerPresent i p ans).1.presenceSound := by
  have cleared := (hs i p).missesCleared hne
  cases ans with
  | event e toggle more =>
    have limit : (if (s.presence i p).taken < 4 then (s.presence i p).taken + 1 else (s.presence i p).taken) ≤ 4 := by
      have := (hs i p).2.2.2.1
      split <;> omega
    have taken := State.presenceSound_withArm_set (i := i) (x := (s.arm i).withPresence p _) hs rfl (cleared.withTaken limit)
    simp only [State.answerPresent]
    split
    · exact taken
    · exact State.presenceSound_acceptEvent taken i p e toggle
  | idle | hello k => exact State.presenceSound_withArm_set hs rfl cleared

theorem State.presenceSound_answerValid (hs : s.presenceSound) (i : ArmId) (p : Fin 32) (ans : Answer) :
    (s.answerValid i p ans).1.presenceSound := by
  unfold State.answerValid
  simp only []
  split
  · split
    · exact hs
    · next hne =>
      exact State.presenceSound_raiseOpt (State.presenceSound_withArm_set hs rfl ((hs i p).greeted hne _)) _
  · split
    · next hst => exact State.presenceSound_answerPresent hs i p ans fun ha => Presence.noConfusion (hst.symm.trans ha)
    · next hst =>
      have back : ((s.withArm i ((s.arm i).withPresence p
          { s.presence i p with state := .present, misses := 0 })).raise (.tileBack i p)).presenceSound :=
        State.presenceSound_of_view (State.presenceSound_withArm_set hs rfl ((hs i p).back hst))
          (State.presenceView_raise _ _)
      exact State.presenceSound_answerPresent back i p ans (by simp [State.presence, Arm.withPresence])
    · next hst =>
      exact State.presenceSound_withArm_set hs rfl ((hs i p).missesCleared fun ha => Presence.noConfusion (hst.symm.trans ha))
    · exact hs
    · exact hs

theorem State.presenceSound_answerMissed (hs : s.presenceSound) (i : ArmId) (p : Fin 32) :
    (s.answerMissed i p).1.presenceSound :=
  State.presenceSound_raiseOpt (State.presenceSound_withArm_set hs rfl (hs i p).missed) _

theorem State.presenceSound_afterOutcome {r : State × Bool} (h : r.1.presenceSound) (i : ArmId) :
    (State.afterOutcome i r).presenceSound := by
  unfold State.afterOutcome
  refine State.presenceSound_bring ?_ i
  split
  · exact h
  · exact State.presenceSound_withArm_kept h (by rw [Arm.leave_eq])

theorem Arm.countError_presence (x : Arm) (e : LineError) : (x.countError e).presence = x.presence := by
  cases e <;> rfl

/-- Any end of a poll keeps the records legal (R11 to R16). -/
theorem State.presenceSound_pollAnswered (hs : s.presenceSound) (i : ArmId) (poll : Poll) (bytes : List LineByte) :
    (s.pollAnswered i poll bytes).presenceSound := by
  have ended (valid : Bool) : (s.endPoll i poll valid).presenceSound := State.presenceSound_withArm_kept hs rfl
  unfold State.pollAnswered
  split
  · exact State.presenceSound_afterOutcome (State.presenceSound_answerValid (ended true) i _ _) i
  · exact State.presenceSound_afterOutcome (State.presenceSound_answerMissed
      (State.presenceSound_withArm_kept (ended false) (Arm.countError_presence _ _)) i _) i

end Sound

end Sys2Proof.Machine
end

section
/-! Every command keeps the presence records legal (R4 to R16). -/

namespace Sys2Proof.Machine

open Sys2Proof

/-! ### A TILE-WRITE -/

theorem tileIndex_inj {i j : ArmId} {p q : Fin 32} (h : tileIndex i p = tileIndex j q) : i = j ∧ p = q :=
  ⟨by simpa using congrArg indexArm h, by simpa using congrArg indexPosition h⟩

section MapRec

variable (s : State) (i : ArmId) (p : Fin 32) (new : TileRec)

theorem State.tileStored_mapRec_self : (s.tileStored i p new).mapRec i p = new := by
  simp [State.mapRec, State.tileStored]

theorem State.tileStored_mapRec_ne {j : ArmId} {q : Fin 32} (h : ¬ (j = i ∧ q = p)) :
    (s.tileStored i p new).mapRec j q = s.mapRec j q := by
  have hv : (tileIndex i p).val ≠ (tileIndex j q).val := fun e => h (by
    obtain ⟨hi, hp⟩ := tileIndex_inj (Fin.ext e)
    exact ⟨hi.symm, hp.symm⟩)
  simp [State.mapRec, State.tileStored, Vector.getElem_set_ne _ _ hv]

theorem State.tileStored_presence_otherArm {j : ArmId} (h : j ≠ i) (q : Fin 32) :
    (s.tileStored i p new).presence j q = s.presence j q := by
  simp [State.presence, State.tileStored, State.withArm_arm_ne _ i j _ h]

end MapRec

section Commands

variable {s : State}

theorem State.presenceSound_tileStored (hs : s.presenceSound) (i : ArmId) (p : Fin 32) (new : TileRec) :
    (s.tileStored i p new).presenceSound := by
  intro j q
  by_cases here : j = i ∧ q = p
  · obtain ⟨rfl, rfl⟩ := here
    rw [State.tileStored_presence_self, State.tileStored_mapRec_self]
    exact (hs j q).rewritten new
  · rw [State.tileStored_mapRec_ne s i p new here]
    by_cases hj : j = i
    · subst hj
      rw [State.tileStored_presence_ne fun hq => here ⟨rfl, hq⟩]
      exact hs j q
    · rw [State.tileStored_presence_otherArm s i p new hj]
      exact hs j q

theorem presenceSound_tileWriteItem (hs : s.presenceSound) (body : List Byte) :
    (tileWriteItem body s).1.presenceSound := by
  cases hb : parseTileWrite body with
  | none => simpa only [tileWriteItem, hb] using hs
  | some written =>
    obtain ⟨k, new⟩ := written
    have stored := State.presenceSound_tileStored hs (indexArm k) (indexPosition k) new
    rw [tileWriteItem_eq s (indexArm k) (indexPosition k) new (by rw [hb, tileIndex_index])]
    simp only []
    split
    · exact stored
    · exact State.presenceSound_bring stored _

/-! ### The other requests -/

/-- An item that leaves the presence records and the map as they are. -/
def keepsPresence (item : List Byte → State → State × Reply) : Prop :=
  ∀ (body : List Byte) (s : State), (item body s).1.presenceView = s.presenceView

theorem presenceSound_serveItem {item : List Byte → State → State × Reply}
    (hitem : ∀ (body : List Byte) (s : State), s.presenceSound → (item body s).1.presenceSound) (hs : s.presenceSound)
    (kind : Byte) (body : List Byte) : (serveItem kind item body s).presenceSound := by
  rcases serveItem_cases kind item body s with ⟨-, h⟩ | ⟨-, h⟩ <;> rw [h]
  · have taken : (s.take (.management kind body)).presenceSound := State.presenceSound_of_view hs (s.presenceView_take _)
    exact State.presenceSound_of_view (hitem body _ taken) (by simp)
  · exact hs

theorem presenceSound_serveItem_kept {item : List Byte → State → State × Reply} (hitem : keepsPresence item)
    (hs : s.presenceSound) (kind : Byte) (body : List Byte) : (serveItem kind item body s).presenceSound :=
  presenceSound_serveItem (fun body t ht => State.presenceSound_of_view ht (hitem body t)) hs kind body

theorem presenceSound_serveDirect {item : List Byte → State → State × Reply} {body : List Byte}
    (hitem : (item body s).1.presenceSound) (hs : s.presenceSound) : (serveDirect item body s).presenceSound := by
  rcases serveDirect_cases item body s with ⟨-, h⟩ | ⟨-, h⟩ <;> rw [h]
  · exact State.presenceSound_withHandler hitem _
  · exact hs

/-- ARM-START resets the records of its arm (R9, R33). -/
theorem presenceSound_armStartItem (hs : s.presenceSound) (body : List Byte) : (armStartItem body s).1.presenceSound := by
  unfold armStartItem
  split
  · exact hs
  · split
    · exact hs
    · exact State.presenceSound_withArm_reset hs rfl

/-- ARM-STOP resets the records of its arm (R9, R35). -/
theorem presenceSound_armStopItem (hs : s.presenceSound) (body : List Byte) : (armStopItem body s).1.presenceSound := by
  unfold armStopItem
  split
  · exact hs
  · exact State.presenceSound_withArm_reset hs rfl

theorem presenceSound_dozeItem (hs : s.presenceSound) (body : List Byte) : (dozeItem body s).1.presenceSound := by
  unfold dozeItem
  split
  · exact hs
  · exact State.presenceSound_withArm_kept (i := .b) (State.presenceSound_withArm_kept (i := .a) hs rfl) rfl
  · exact State.presenceSound_dozeOff hs

theorem presenceSound_diagCaptureItem (hs : s.presenceSound) (body : List Byte) :
    (diagCaptureItem body s).1.presenceSound := by
  unfold diagCaptureItem
  split
  · exact State.presenceSound_of_view hs (s.presenceView_withMemory _)
  · exact hs

theorem presenceSound_armStatusItem (hs : s.presenceSound) (body : List Byte) :
    (armStatusItem body s).1.presenceSound := by
  unfold armStatusItem
  split <;> exact hs

theorem presenceSound_tileReadItem (hs : s.presenceSound) (body : List Byte) : (tileReadItem body s).1.presenceSound := by
  unfold tileReadItem
  split <;> exact hs

theorem presenceSound_directItem (hs : s.presenceSound) {kind : Byte} {item : List Byte → State → State × Reply}
    (hd : directItem kind = some item) (body : List Byte) : (item body s).1.presenceSound := by
  unfold directItem at hd
  split at hd <;> cases hd
  · exact hs
  · exact presenceSound_armStatusItem hs body
  · exact presenceSound_tileReadItem hs body
  · exact presenceSound_armStartItem hs body
  · exact presenceSound_armStopItem hs body
  · exact presenceSound_dozeItem hs body
  · exact presenceSound_diagCaptureItem hs body

/-- Whatever a taken request is, the records stay legal (R174, R175). -/
theorem State.presenceSound_decodeRequest (hs : s.presenceSound) (kind : Byte) (body : List Byte) :
    (s.decodeRequest kind body).presenceSound := by
  unfold State.decodeRequest
  split
  · next item hd => exact State.presenceSound_withHandler (presenceSound_directItem hs hd body) _
  · split <;> exact State.presenceSound_withHandler hs _

theorem keepsPresence_setup : keepsPresence setupItem := by
  intro body s
  unfold setupItem
  split <;> simp

theorem keepsPresence_ruleWrite : keepsPresence ruleWriteItem := by
  intro body s
  unfold ruleWriteItem
  split <;> simp

theorem keepsPresence_ruleRead : keepsPresence ruleReadItem := by
  intro body s
  unfold ruleReadItem
  split
  · rfl
  · simp only []
    split <;> simp

theorem keepsPresence_ruleEnable : keepsPresence ruleEnableItem := by
  intro body s
  unfold ruleEnableItem
  split
  · rfl
  · split <;> simp

theorem keepsPresence_ruleDisable : keepsPresence ruleDisableItem := by
  intro body s
  unfold ruleDisableItem
  split <;> simp

theorem keepsPresence_rawRead : keepsPresence rawReadItem := by
  intro body s
  unfold rawReadItem
  split <;> rfl

theorem keepsPresence_rawWrite : keepsPresence rawWriteItem := by
  intro body s
  unfold rawWriteItem
  split <;> simp

theorem keepsPresence_questWrite : keepsPresence questWriteItem := by
  intro body s
  unfold questWriteItem
  split
  · rfl
  · split <;> simp

theorem keepsPresence_questRead : keepsPresence questReadItem := by
  intro body s
  unfold questReadItem
  split <;> rfl

theorem keepsPresence_questStart : keepsPresence questStartItem := by
  intro body s
  unfold questStartItem
  split
  · rfl
  · repeat' split
    all_goals simp

theorem keepsPresence_questAbort : keepsPresence questAbortItem := by
  intro body s
  unfold questAbortItem
  split
  · rfl
  · split <;> simp

theorem keepsPresence_scoreSet : keepsPresence scoreSetItem := by
  intro body s
  unfold scoreSetItem
  split <;> simp

theorem keepsPresence_scoreRead : keepsPresence scoreReadItem := fun _ _ => rfl

theorem keepsPresence_turnSet : keepsPresence turnSetItem := by
  intro body s
  unfold turnSetItem
  split
  · rfl
  · split <;> simp

theorem keepsPresence_effectSend : keepsPresence effectSendItem := by
  intro body s
  unfold effectSendItem
  split
  · rfl
  · repeat' split
    all_goals simp

theorem keepsPresence_inject : keepsPresence injectItem := by
  intro body s
  unfold injectItem
  split
  · split <;> simp
  · rfl

theorem keepsPresence_engineHold : keepsPresence engineHoldItem := by
  intro body s
  unfold engineHoldItem
  split <;> simp

theorem keepsPresence_engineRun : keepsPresence engineRunItem := by
  intro body s
  unfold engineRunItem
  split <;> simp

/-- GAME-RESET leaves map and presence alone (R139). -/
theorem keepsPresence_gameReset : keepsPresence gameResetItem := by
  intro body s
  unfold gameResetItem
  split <;> rfl

/-! ### The frames on the pairs -/

/-- The start of a frame moves the rotation to where it stands, and no record (R25). -/
theorem exec_presenceSound_of_send {c : Instr} {i : ArmId} (hc : c = .pollSend i ∨ c = .effectFrameSend i ∨ c = .assignSend i)
    (hs : s.presenceSound) : ∃ t, exec c s = .next t ∧ t.presenceSound := by
  have brought := State.presenceSound_bring hs i
  rcases hc with rfl | rfl | rfl
  all_goals
    refine ⟨_, rfl, ?_⟩
    split
    · simp only []
      split
      · exact State.presenceSound_withArm_kept brought rfl
      · exact brought
    · exact hs

theorem State.presenceSound_received (hs : s.presenceSound) {i : ArmId} {x : Arm} (h : x.presence = (s.arm i).presence) :
    (s.received i x).presenceSound :=
  State.presenceSound_bring (State.presenceSound_withArm_kept (x := { x with line := .free }) hs h) i

theorem State.presenceSound_waitOver (hs : s.presenceSound) (i : ArmId) (f : StartMark → StartMark) :
    (s.waitOver i f).presenceSound := by
  have noted : (s.withArm i { s.arm i with startMark := (s.arm i).startMark.map f }).presenceSound :=
    State.presenceSound_withArm_kept hs rfl
  unfold State.waitOver
  simp only []
  split
  · split
    · exact State.presenceSound_bring noted i
    · exact noted
  · exact hs

/-- The end of an ASSIGN clears its flag (R10). -/
theorem State.presenceSound_assignSent (hs : s.presenceSound) (i : ArmId) (p : Fin 32) (again : Bool) :
    (s.withArm i ((s.arm i).assignSent p again)).presenceSound := by
  unfold Arm.assignSent
  split
  · exact State.presenceSound_withArm_kept hs rfl
  · exact State.presenceSound_withArm_set hs rfl (hs i p).assignSent

theorem State.presenceSound_effectSent (hs : s.presenceSound) (i : ArmId) (effects : List EffectEntry) :
    ((s.withArm i { s.arm i with line := .free, effects := effects }).settle i).presenceSound := by
  have freed : (s.withArm i { s.arm i with line := .free, effects := effects }).presenceSound :=
    State.presenceSound_withArm_kept hs rfl
  exact State.presenceSound_settle freed i

theorem State.presenceSound_windowClosed (hs : s.presenceSound) (i : ArmId) (poll : Poll) :
    (State.afterOutcome i ((s.endPoll i poll false).answerMissed i poll.position)).presenceSound := by
  have ended : (s.endPoll i poll false).presenceSound := State.presenceSound_withArm_kept hs rfl
  exact State.presenceSound_afterOutcome (State.presenceSound_answerMissed ended i _) i

theorem State.presenceSound_scrubSlot (hs : s.presenceSound) : s.scrubSlot.presenceSound := by
  refine State.presenceSound_of_view hs ?_
  unfold State.scrubSlot State.scrubVisit
  simp only []
  repeat' split
  all_goals simp

/-! ### All commands but the takes of event items -/

/-- The commands that take an event item. -/
def takesEvent (c : Instr) : Prop := c = .tileEventTake ∨ c = .expiryTake ∨ c = .injectTake

/-- Every reset leaves the records and the map at their power-on values (R2, R9, R140). -/
theorem State.presenceSound_of_powerOn {t : State} (h : t.presenceView = State.reset.presenceView) : t.presenceSound := by
  obtain ⟨-, -, -, -, presence, -, -, -⟩ := resetStateIsSound
  exact State.presenceSound_of_view presence h

theorem exec_presenceSound_of_not_take (hs : s.presenceSound) (c : Instr) (hc : ¬ takesEvent c) :
    ∃ t, exec c s = .next t ∧ t.presenceSound := by
  have kept {t : State} (h : t.presenceView = s.presenceView) : t.presenceSound := State.presenceSound_of_view hs h
  have direct {item : List Byte → State → State × Reply} {body : List Byte}
      (h : (item body s).1.presenceSound) : (serveDirect item body s).presenceSound := presenceSound_serveDirect h hs
  have served {item : List Byte → State → State × Reply} (h : keepsPresence item) (kind : Byte) (body : List Byte) :
      (serveItem kind item body s).presenceSound := presenceSound_serveItem_kept h hs kind body
  cases c with
  | powerOn | resetLine => exact ⟨_, rfl, State.presenceSound_of_powerOn rfl⟩
  | rstnRelease =>
    refine ⟨_, rfl, ?_⟩
    split
    · exact State.presenceSound_of_powerOn rfl
    · exact hs
  | uplinkByteReceived b ok => exact ⟨_, rfl, kept (s.presenceView_receive b ok)⟩
  | holdReceived ok => exact ⟨_, rfl, kept (s.presenceView_receive 0xF1 ok)⟩
  | goReceived ok => exact ⟨_, rfl, kept (s.presenceView_receive 0xF2 ok)⟩
  | partialFrameTimeout =>
    refine ⟨_, rfl, kept ?_⟩
    split <;> simp
  | discardQuiet =>
    refine ⟨_, rfl, kept ?_⟩
    split <;> simp
  | flowByteSend =>
    refine ⟨_, rfl, kept ?_⟩
    split <;> simp
  | transmitFrameStart =>
    refine ⟨_, rfl, kept ?_⟩
    split <;> simp
  | transmitFrameEnd =>
    refine ⟨_, rfl, kept ?_⟩
    split
    · rw [State.presenceView_frameSent, State.presenceView_withUplink]
    · rfl
  | requestTake =>
    refine ⟨_, rfl, ?_⟩
    split
    · exact State.presenceSound_decodeRequest (kept (s.presenceView_withUplink _)) _ _
    · exact hs
  | identify body => exact ⟨_, rfl, direct hs⟩
  | armStatus body => exact ⟨_, rfl, direct (presenceSound_armStatusItem hs body)⟩
  | tileRead body => exact ⟨_, rfl, direct (presenceSound_tileReadItem hs body)⟩
  | armStart body => exact ⟨_, rfl, direct (presenceSound_armStartItem hs body)⟩
  | armStop body => exact ⟨_, rfl, direct (presenceSound_armStopItem hs body)⟩
  | doze body => exact ⟨_, rfl, direct (presenceSound_dozeItem hs body)⟩
  | diagCapture body => exact ⟨_, rfl, direct (presenceSound_diagCaptureItem hs body)⟩
  | tileWrite body =>
    exact ⟨_, rfl, presenceSound_serveItem (fun body _ ht => presenceSound_tileWriteItem ht body) hs 0x09 body⟩
  | setup body => exact ⟨_, rfl, served keepsPresence_setup 0x08 body⟩
  | ruleWrite body => exact ⟨_, rfl, served keepsPresence_ruleWrite 0x0A body⟩
  | ruleRead body => exact ⟨_, rfl, served keepsPresence_ruleRead 0x0B body⟩
  | ruleEnable body => exact ⟨_, rfl, served keepsPresence_ruleEnable 0x0C body⟩
  | ruleDisable body => exact ⟨_, rfl, served keepsPresence_ruleDisable 0x0D body⟩
  | rawRead body => exact ⟨_, rfl, served keepsPresence_rawRead 0x0E body⟩
  | rawWrite body => exact ⟨_, rfl, served keepsPresence_rawWrite 0x0F body⟩
  | questWrite body => exact ⟨_, rfl, served keepsPresence_questWrite 0x10 body⟩
  | questRead body => exact ⟨_, rfl, served keepsPresence_questRead 0x11 body⟩
  | questStart body => exact ⟨_, rfl, served keepsPresence_questStart 0x12 body⟩
  | questAbort body => exact ⟨_, rfl, served keepsPresence_questAbort 0x13 body⟩
  | scoreSet body => exact ⟨_, rfl, served keepsPresence_scoreSet 0x14 body⟩
  | scoreRead body => exact ⟨_, rfl, served keepsPresence_scoreRead 0x15 body⟩
  | turnSet body => exact ⟨_, rfl, served keepsPresence_turnSet 0x16 body⟩
  | effectSend body => exact ⟨_, rfl, served keepsPresence_effectSend 0x17 body⟩
  | inject body => exact ⟨_, rfl, served keepsPresence_inject 0x18 body⟩
  | engineHold body => exact ⟨_, rfl, served keepsPresence_engineHold 0x19 body⟩
  | engineRun body => exact ⟨_, rfl, served keepsPresence_engineRun 0x1A body⟩
  | gameReset body => exact ⟨_, rfl, served keepsPresence_gameReset 0x1B body⟩
  | tileEventTake => exact absurd (.inl rfl) hc
  | expiryTake => exact absurd (.inr (.inl rfl)) hc
  | injectTake => exact absurd (.inr (.inr rfl)) hc
  | questTick =>
    refine ⟨_, rfl, kept ?_⟩
    split
    · exact s.presenceView_tickAll _
    · rfl
  | questTimerExpiry q =>
    refine ⟨_, rfl, kept ?_⟩
    split <;> simp
  | scrubSlot =>
    refine ⟨_, rfl, ?_⟩
    split
    · exact State.presenceSound_scrubSlot hs
    · exact hs
  | scrubWriteBack =>
    refine ⟨_, rfl, kept ?_⟩
    split <;> simp
  | bitUpset entry position => exact ⟨_, rfl, kept (s.presenceView_withMemory _)⟩
  | pollSend i => exact exec_presenceSound_of_send (.inl rfl) hs
  | effectFrameSend i => exact exec_presenceSound_of_send (.inr (.inl rfl)) hs
  | assignSend i => exact exec_presenceSound_of_send (.inr (.inr rfl)) hs
  | effectFrameEnd i =>
    refine ⟨_, rfl, ?_⟩
    split
    · exact State.presenceSound_effectSent hs i _
    · exact hs
  | assignEnd i =>
    refine ⟨_, rfl, ?_⟩
    split
    · exact State.presenceSound_settle (State.presenceSound_assignSent hs i _ _) i
    · exact hs
  | pollAnswer i bytes =>
    refine ⟨_, rfl, ?_⟩
    split
    · exact State.presenceSound_pollAnswered hs i _ bytes
    · exact State.presenceSound_received hs rfl
    · exact hs
  | replyWindowClose i =>
    refine ⟨_, rfl, ?_⟩
    split
    · exact State.presenceSound_windowClosed hs i _
    · exact State.presenceSound_received hs rfl
    · exact hs
  | strayFrame i frame =>
    refine ⟨_, rfl, ?_⟩
    split
    · exact State.presenceSound_received hs (Arm.countError_presence _ _)
    · exact hs
  | dozeWaitEnd i => exact ⟨_, rfl, State.presenceSound_waitOver hs i _⟩
  | emptyRotationWaitEnd i => exact ⟨_, rfl, State.presenceSound_waitOver hs i _⟩

/-- What the other blocks do inside an event item is a command of theirs, or nothing (R130). -/
theorem besides_eq (c : Instr) (s : State) :
    besides c s = s ∨ (¬ takesEvent c ∧ exec c s = .next (besides c s)) := by
  unfold takesEvent
  cases c
  case powerOn | resetLine | rstnRelease | setup | tileWrite | ruleWrite | ruleRead | ruleEnable | ruleDisable | rawRead |
      rawWrite | questWrite | questRead | questStart | questAbort | scoreSet | scoreRead | turnSet | effectSend | inject |
      engineHold | engineRun | gameReset | tileEventTake | expiryTake | injectTake => exact .inl rfl
  all_goals exact .inr ⟨by simp, rfl⟩

theorem presenceSound_besides (c : Instr) (s : State) (hs : s.presenceSound) : (besides c s).presenceSound := by
  rcases besides_eq c s with h | ⟨hc, h⟩
  · rwa [h]
  · obtain ⟨t, ht, sound⟩ := exec_presenceSound_of_not_take hs c hc
    rwa [Host.Outcome.next.inj (h.symm.trans ht)]

/-! ### Event items -/

theorem presenceView_performEffect (s : State) (e : Effect) (t : EffectTarget) (ev : Event) :
    (performEffect s e t ev).presenceView = s.presenceView := by
  unfold performEffect effectToTile
  repeat' split
  all_goals simp

theorem presenceView_performScore (s : State) (f : Score → Score → Score) (seat : Option (Fin 6)) (n : Fin 10000) :
    (performScore s f seat n).presenceView = s.presenceView := by
  unfold performScore
  split <;> simp

theorem presenceView_performStageAdvance (s : State) (q : Fin 16) :
    (performStageAdvance s q).presenceView = s.presenceView := by
  unfold performStageAdvance
  simp only []
  split <;> simp

theorem presenceView_performQuestStart {s t : State} {k : Fin 16} (h : performQuestStart s k = .done t) :
    t.presenceView = s.presenceView := by
  unfold performQuestStart at h
  repeat' split at h
  all_goals cases h
  · rfl
  · simp

theorem presenceView_onHome {s t : State} {home : Option (Fin 16)} {f : Fin 16 → State} (h : onHome s home f = .done t)
    (hf : ∀ q, (f q).presenceView = s.presenceView) : t.presenceView = s.presenceView := by
  cases home <;> cases h
  · rfl
  · exact hf _

/-- No action of a rule touches a presence record or the map (R132). -/
theorem presenceView_performAction {s t : State} {ev : Event} {home : Option (Fin 16)} {a : Action}
    (h : performAction s ev home a = .done t) : t.presenceView = s.presenceView := by
  unfold performAction at h
  cases hk : a.kind <;> rw [hk] at h <;> simp only [] at h
  case stageAdvance => exact presenceView_onHome h fun q => presenceView_performStageAdvance s q
  case count | setIf | stageSet | questComplete | questFail | timerStart | timerStop =>
    exact presenceView_onHome h fun _ => rfl
  case questStart => exact presenceView_performQuestStart h
  case scoreAdd | scoreSub =>
    cases h
    exact presenceView_performScore s _ _ _
  case effect =>
    cases h
    exact presenceView_performEffect s _ _ ev
  case turnNext | turnSet | signal | ruleEnable | ruleDisable =>
    cases h
    rfl

theorem presenceView_runAction {s t : State} {ev : Event} {home : Option (Fin 16)} {a : Action}
    (h : runAction s ev home a = .done t) : t.presenceView = s.presenceView := by
  cases ha : a.isHome with
  | false => exact presenceView_performAction ((runAction_free s ev home a ha).symm.trans h)
  | true =>
    cases home with
    | none =>
      rw [runAction, if_pos ha] at h
      cases h
      rfl
    | some q =>
      rcases runAction_home s ev q a ha with ⟨-, hr⟩ | ⟨-, -, hr⟩ | ⟨-, hr⟩ <;> rw [hr] at h
      · cases h
      · cases h
        rfl
      · split at h
        · exact presenceView_performAction h
        · cases h
          rfl

theorem presenceSound_fireRule (asides : List Aside) (ev : Event) (s : State) (i : Fin 256) (r : RuleRecord)
    (hs : s.presenceSound) : (fireRule asides ev i r s).presenceSound := by
  refine runActions_induct asides State.presenceSound ev i r.home presenceSound_besides
    (fun t a t' ht h => State.presenceSound_of_view ht (presenceView_runAction h))
    (fun t al ht => State.presenceSound_of_view ht (t.presenceView_raise al)) r.actions 1 _ ?_
  split
  · exact State.presenceSound_of_view hs (s.presenceView_withRule i _)
  · exact hs

theorem presenceSound_runEvent (hs : s.presenceSound) (asides : List Aside) (ev : Event) :
    (runEvent asides ev s).presenceSound := by
  have scanned : (scanRules asides ev 0 s allRules).1.presenceSound :=
    scanRules_induct asides State.presenceSound ev presenceSound_besides
      (fun t i ht => State.presenceSound_of_view ht (presenceView_checkedRead t .scan i))
      (presenceSound_fireRule asides ev) allRules 0 s hs
  have echoed := during_induct asides State.presenceSound presenceSound_besides .echo _ scanned
  refine State.presenceSound_of_view echoed ?_
  simp only [runEvent, State.presenceView_endItem]
  split
  · rw [State.presenceView_placeEcho]
  · rfl

theorem State.presenceSound_runTileEvent (hs : s.presenceSound) (i : ArmId) (r : EventRecord) :
    (s.runTileEvent i r).presenceSound := by
  have taken : (s.withArm i { s.arm i with fifo := (s.arm i).fifo.tail }).presenceSound :=
    State.presenceSound_withArm_kept hs rfl
  exact presenceSound_runEvent (State.presenceSound_of_view taken (by simp)) _ _

theorem State.presenceSound_runExpiry (hs : s.presenceSound) (q : Fin 16) : (s.runExpiry q).presenceSound := by
  unfold State.runExpiry
  simp only []
  split
  · exact State.presenceSound_of_view hs (by simp)
  · exact presenceSound_runEvent (State.presenceSound_of_view hs (by simp)) _ _

theorem State.presenceSound_runInject (hs : s.presenceSound) (code : Byte) : (s.runInject code).presenceSound :=
  presenceSound_runEvent (State.presenceSound_of_view hs (by simp)) _ _

theorem exec_presenceSound_of_take (hs : s.presenceSound) {c : Instr} (hc : takesEvent c) :
    ∃ t, exec c s = .next t ∧ t.presenceSound := by
  rcases hc with rfl | rfl | rfl
  · refine ⟨_, rfl, ?_⟩
    split
    · exact State.presenceSound_runTileEvent hs _ _
    · exact hs
  · refine ⟨_, rfl, ?_⟩
    split
    · exact State.presenceSound_runExpiry hs _
    · exact hs
  · refine ⟨_, rfl, ?_⟩
    split
    · exact State.presenceSound_runInject hs _
    · exact hs

/-- Settles O10: an idle step changes nothing; a command is a take of an event item, in which the other blocks run their
own commands, or one of those. -/
theorem presenceFollowsTheMap : Obligations.PresenceFollowsTheMap := by
  intro s t hs h
  unfold step at h
  split at h
  · cases h
    exact hs
  · next c rest _ =>
    have dequeued : (s.withPending rest).presenceSound := State.presenceSound_of_view hs (s.presenceView_withPending rest)
    have runs : ∃ u, exec c (s.withPending rest) = .next u ∧ u.presenceSound := by
      by_cases hc : takesEvent c
      · exact exec_presenceSound_of_take dequeued hc
      · exact exec_presenceSound_of_not_take dequeued c hc
    obtain ⟨u, hu, sound⟩ := runs
    rwa [Host.Outcome.next.inj (h.symm.trans hu)]

end Commands

end Sys2Proof.Machine
end

section
/-! Room in the queues and buffers (R26, R45, R50, R126, R127, R169): what an event item still has to fill, and which
operations leave it. -/

namespace Sys2Proof.Machine

open Sys2Proof

/-- An arm's queues fit, with room for `k` more effect entries (R26, R45, R50, R126). -/
structure Arm.HasRoom (k : Nat) (x : Arm) : Prop where
  fifo : x.fifo.length ≤ 16
  effects : x.effects.length + k ≤ 32
  awaiting : x.line.awaiting = true → x.fifo.length < 16
  inactive : x.active = false → x.effects = [] ∧ x.line = .free

/-- Every queue and buffer fits, with room for `k` more quest notices, as many more entries in each effect queue, and `n`
more echoes: what an event item with that much left to do needs (R126, R127). -/
structure State.HasRoom (k n : Nat) (s : State) : Prop where
  arms : ∀ i, (s.arm i).HasRoom k
  highMark : s.engine.highMark ≤ 16
  quests : s.notices.quests.length + k ≤ 32
  events : s.notices.events.length + n ≤ 24
  buffer : s.uplink.bufferCount ≤ 512

/-- The queues are sound exactly when they fit with nothing left to do. -/
theorem State.queuesSound_iff (s : State) : s.queuesSound ↔ s.HasRoom 0 0 := by
  constructor
  · rintro ⟨arms, highMark, quests, events, buffer⟩
    refine ⟨fun i => ?_, highMark, quests, events, buffer⟩
    obtain ⟨fifo, effects, awaiting, inactive⟩ := arms i
    exact ⟨fifo, effects, awaiting, inactive⟩
  · rintro ⟨arms, highMark, quests, events, buffer⟩
    exact ⟨fun i => ⟨(arms i).fifo, (arms i).effects, (arms i).awaiting, (arms i).inactive⟩, highMark, quests, events, buffer⟩

/-! ### One arm -/

section Arm

variable {k : Nat} {x y : Arm}

/-- Queues that have not grown fit, as long as no poll has come onto the pair (R26, R50). -/
theorem Arm.HasRoom.shrunk (h : x.HasRoom k) (fifo : y.fifo.length ≤ x.fifo.length)
    (effects : y.effects.length ≤ x.effects.length) (line : y.line.awaiting = true → x.line.awaiting = true)
    (inactive : y.active = false → y.effects = [] ∧ y.line = .free) : y.HasRoom k :=
  ⟨fifo.trans h.fifo, (Nat.add_le_add_right effects k).trans h.effects,
    fun hy => fifo.trans_lt (h.awaiting (line hy)), inactive⟩

theorem Arm.HasRoom.kept (h : x.HasRoom k) (fifo : y.fifo = x.fifo) (effects : y.effects = x.effects)
    (line : y.line = x.line) (active : y.active = x.active) : y.HasRoom k :=
  h.shrunk (by rw [fifo]) (by rw [effects]) (by rw [line]; exact id) (by rw [active, effects, line]; exact h.inactive)


theorem Arm.HasRoom.mono {m : Nat} (h : x.HasRoom m) (hk : k ≤ m) : x.HasRoom k :=
  ⟨h.fifo, (Nat.add_le_add_left hk _).trans h.effects, h.awaiting, h.inactive⟩

/-- The rotation and the presence records are nothing to the queues. -/
theorem Arm.HasRoom.reach (h : x.HasRoom k) : x.reach.HasRoom k := by
  cases hn : x.nextStop with
  | none =>
    rw [Arm.reach_of_none hn]
    exact h.kept rfl rfl rfl rfl
  | some p =>
    rw [Arm.reach_of_some hn]
    exact h.kept rfl rfl rfl rfl

theorem Arm.HasRoom.leave (h : x.HasRoom k) : x.leave.HasRoom k := by
  rw [Arm.leave_eq]
  exact h.kept rfl rfl rfl rfl

theorem Arm.HasRoom.startRotation (h : x.HasRoom k) : x.startRotation.HasRoom k := h.kept rfl rfl rfl rfl

theorem Arm.HasRoom.countError (h : x.HasRoom k) (e : LineError) : (x.countError e).HasRoom k := by
  cases e <;> exact h.kept rfl rfl rfl rfl

theorem Arm.HasRoom.dozing (h : x.HasRoom k) : { x with doze := true }.HasRoom k := h.kept rfl rfl rfl rfl

theorem Arm.HasRoom.dozeOff (h : x.HasRoom k) : x.dozeOff.HasRoom k := by
  unfold Arm.dozeOff
  split
  · exact h.kept rfl rfl rfl rfl
  · exact h

/-- An arm that is stopped or faulted has an empty effect queue and drives nothing (R35, R39, R57). -/
theorem Arm.HasRoom.halted (h : x.HasRoom k) (phase : ArmPhase) (presence : Vector PresenceRec 32) :
    (x.halted phase presence).HasRoom k :=
  h.shrunk (Nat.le_refl _) (Nat.zero_le _) (fun hl => Bool.noConfusion hl) fun _ => ⟨rfl, rfl⟩

/-- The pair is free again, be it with an effect entry less (R22, R56). -/
theorem Arm.HasRoom.freed (h : x.HasRoom k) (hy : y.line = .free) (fifo : y.fifo = x.fifo)
    (effects : y.effects <:+ x.effects) (active : y.active = x.active) : y.HasRoom k := by
  refine h.shrunk (by rw [fifo]) effects.length_le (by simp [hy, Line.awaiting]) fun ha => ⟨?_, hy⟩
  exact List.suffix_nil.mp ((h.inactive (active ▸ ha)).1 ▸ effects)

/-- An ASSIGN or effect frame that an active arm starts awaits no answer (R21). -/
theorem Arm.HasRoom.sends (h : x.HasRoom k) (hx : x.active = true) {line : Line} (hl : line.awaiting = false)
    (alternation : Alternation) : { x with line := line, alternation := alternation }.HasRoom k :=
  h.shrunk (Nat.le_refl _) (Nat.le_refl _) (fun ha => by simp [hl] at ha) fun ha => absurd (hx.symm.trans ha) (by simp)

/-- A poll starts only with a free place in the FIFO for its answer (R26, R45). -/
theorem Arm.HasRoom.sendPoll (h : x.HasRoom k) (hx : x.active = true) (hf : x.fifo.length < 16) : x.sendPoll.HasRoom k :=
  ⟨h.fifo, h.effects, fun _ => hf, fun ha => absurd (hx.symm.trans ha) (by simp)⟩

/-- A new event takes the place that was kept free for it (R26, R45). -/
theorem Arm.HasRoom.takes (h : x.HasRoom k) (hl : x.line = .free) (hf : x.fifo.length < 16) (r : EventRecord)
    (presence : Vector PresenceRec 32) : { x with fifo := x.fifo ++ [r], presence := presence }.HasRoom k :=
  ⟨by simpa using hf, h.effects, by simp [hl, Line.awaiting], h.inactive⟩

/-- The arm with an effect entry at the end of its queue, which an arm that drives nothing does not take (R51). -/
def Arm.joined (x : Arm) (e : EffectEntry) : Arm := if x.active then { x with effects := x.effects ++ [e] } else x

theorem Arm.HasRoom.joined (h : x.HasRoom (k + 1)) (e : EffectEntry) : (x.joined e).HasRoom k := by
  have effects := h.effects
  unfold Arm.joined
  split
  · next ha =>
    exact ⟨h.fifo, by simp only [List.length_append, List.length_singleton]; omega, h.awaiting,
      fun hi => absurd (ha.symm.trans hi) (by simp)⟩
  · exact h.mono (Nat.le_succ k)

theorem State.enqueue_eq (s : State) (i : ArmId) (e : EffectEntry) : s.enqueue i e = s.withArm i ((s.arm i).joined e) := by
  rcases s.enqueue_cases i e with ⟨ha, h⟩ | ⟨ha, h⟩ <;> simp [h, Arm.joined, ha]

/-- A TILE-WRITE ends a poll or leaves the line's frame (R7, R10). -/
theorem Line.awaiting_of_rewritten {l : Line} {p : Fin 32} {retyped again : Bool}
    (h : (l.rewritten p retyped again).awaiting = true) : l.awaiting = true := by
  cases l with
  | poll poll frame => rfl
  | free | lapsed | assign | effect => exact h

theorem Arm.HasRoom.rewrite (h : x.HasRoom k) (p : Fin 32) (old new : TileRec) : (x.rewrite p old new).HasRoom k := by
  rw [Arm.rewrite_frame]
  refine h.shrunk (Nat.le_refl _) (Nat.le_refl _) Line.awaiting_of_rewritten fun ha => ?_
  obtain ⟨effects, line⟩ := h.inactive ha
  exact ⟨effects, by simp [Arm.recordRewritten, line, Line.rewritten]⟩

/-- GAME-RESET empties the FIFO and the effect queue; the frame on the pair goes on (R48, R57). -/
theorem Arm.HasRoom.gameReset (h : x.HasRoom k) : x.gameReset.HasRoom k := by
  refine h.shrunk (Nat.zero_le _) (Nat.zero_le _) ?_ fun ha => ⟨rfl, ?_⟩
  · cases hl : x.line <;> simp [Arm.gameReset, hl, Line.awaiting]
  · simp [Arm.gameReset, (h.inactive ha).2]

end Arm

end Sys2Proof.Machine
end

section
/-! Room in the queues: the operations that leave it, from the alerts to the answers of the tiles (R26, R28, R45, R169). -/

namespace Sys2Proof.Machine

open Sys2Proof

/-! ### What the queues are to the other operations -/

/-- Everything that the room in the queues and buffers depends on. -/
def State.queueView (s : State) : Arm × Arm × Nat × List QuestNotice × List Echo × Nat :=
  (s.armA, s.armB, s.engine.highMark, s.notices.quests, s.notices.events, s.uplink.bufferCount)

section View

variable (s : State)

@[simp] theorem State.queueView_withTileMap (x : Vector TileRec 64) : (s.withTileMap x).queueView = s.queueView := rfl
@[simp] theorem State.queueView_withMemory (x : RuleMemory) : (s.withMemory x).queueView = s.queueView := rfl
@[simp] theorem State.queueView_withHandler (x : Handler) : (s.withHandler x).queueView = s.queueView := rfl
@[simp] theorem State.queueView_withPending (x : List Instr) : (s.withPending x).queueView = s.queueView := rfl
@[simp] theorem State.queueView_withTileWrites (n : Nat) : (s.withTileWrites n).queueView = s.queueView := rfl
@[simp] theorem State.queueView_raise (al : Alert) : (s.raise al).queueView = s.queueView := rfl
@[simp] theorem State.queueView_withQuest (q : Fin 16) (x : Quest) : (s.withQuest q x).queueView = s.queueView := rfl
@[simp] theorem State.queueView_withTimer (q : Fin 16) (x : Timer) : (s.withTimer q x).queueView = s.queueView := rfl
@[simp] theorem State.queueView_withRule (i : Fin 256) (r : RuleState) : (s.withRule i r).queueView = s.queueView := rfl
@[simp] theorem State.queueView_writeRule (i : Fin 256) (e : BitVec 233) (r : RuleState) :
    (s.writeRule i e r).queueView = s.queueView := rfl
@[simp] theorem State.queueView_take (w : WorkItem) : (s.take w).queueView = s.queueView := rfl
@[simp] theorem State.queueView_endItem : s.endItem.queueView = s.queueView := rfl
@[simp] theorem State.queueView_endQuest (q : Fin 16) (st : QuestState) (r : EndReason) :
    (s.endQuest q st r).queueView = s.queueView := rfl

theorem State.queueView_withEngine {x : Engine} (h : x.highMark = s.engine.highMark) :
    (s.withEngine x).queueView = s.queueView := by
  simp [State.queueView, h]

theorem State.queueView_raiseOpt (al : Option Alert) : (s.raiseOpt al).queueView = s.queueView := by
  cases al <;> rfl

@[simp] theorem State.queueView_activate (q : Fin 16) : (s.activate q).queueView = s.queueView := by
  unfold State.activate
  simp only []
  split <;> rfl

@[simp] theorem queueView_checkedRead (found : FoundBy) (i : Fin 256) :
    (checkedRead found i s).1.queueView = s.queueView := by
  rcases checkedRead_cases found i s with ⟨-, h⟩ | ⟨p, -, h⟩ | ⟨-, h⟩ <;> rw [h] <;> rfl

@[simp] theorem State.queueView_tickTimer (q : Fin 16) : (s.tickTimer q).queueView = s.queueView := by
  unfold State.tickTimer
  simp only []
  split
  · split <;> rfl
  · rfl

theorem State.queueView_tickAll (l : List (Fin 16)) : (s.tickAll l).queueView = s.queueView := by
  induction l generalizing s with
  | nil => rfl
  | cons q rest ih => rw [State.tickAll, ih, State.queueView_tickTimer]

theorem State.queueView_scrubSlot : s.scrubSlot.queueView = s.queueView := by
  unfold State.scrubSlot State.scrubVisit
  simp only []
  repeat' split
  all_goals simp

/-- The frame that begins leaves its notice or echo in its queue (R161). -/
@[simp] theorem State.queueView_startFrame : s.startFrame.queueView = s.queueView := by
  rcases s.startFrame_cases with ⟨r, -, h⟩ | ⟨-, ⟨e, rest, -, h⟩ | ⟨-, n, rest, -, h⟩ | ⟨-, -, e, rest, -, h⟩ | ⟨-, -, -, h⟩⟩ <;>
    rw [h] <;> rfl

theorem State.queueView_hostGo : s.hostGo.queueView = s.queueView := by
  unfold State.hostGo
  simp only []
  split
  · rw [State.queueView_startFrame]
    rfl
  · rfl

end View

section Room

variable {s t : State} {i : ArmId} {k n : Nat}

theorem State.HasRoom.of_view (h : s.HasRoom k n) (hv : t.queueView = s.queueView) : t.HasRoom k n := by
  simp only [State.queueView, Prod.mk.injEq] at hv
  obtain ⟨armA, armB, highMark, quests, events, buffer⟩ := hv
  have arms (j : ArmId) : t.arm j = s.arm j := by
    cases j with
    | a => exact armA
    | b => exact armB
  exact ⟨fun j => arms j ▸ h.arms j, highMark ▸ h.highMark, quests ▸ h.quests, events ▸ h.events, buffer ▸ h.buffer⟩

theorem State.HasRoom.mono {l m : Nat} (h : s.HasRoom l m) (hk : k ≤ l) (hn : n ≤ m) : s.HasRoom k n :=
  ⟨fun j => (h.arms j).mono hk, h.highMark, (Nat.add_le_add_left hk _).trans h.quests,
    (Nat.add_le_add_left hn _).trans h.events, h.buffer⟩

/-! ### One block at a time -/

theorem State.HasRoom.withArm (h : s.HasRoom k n) {x : Arm} (hx : x.HasRoom k) : (s.withArm i x).HasRoom k n := by
  refine ⟨fun j => ?_, by simpa using h.highMark, by simpa using h.quests, by simpa using h.events, by simpa using h.buffer⟩
  by_cases hj : j = i
  · subst hj
    simpa using hx
  · rw [State.withArm_arm_ne s i j x hj]
    exact h.arms j

theorem State.HasRoom.withUplink (h : s.HasRoom k n) {u : Uplink} (hu : u.bufferCount ≤ 512) :
    (s.withUplink u).HasRoom k n :=
  ⟨fun j => by simpa using h.arms j, h.highMark, h.quests, h.events, hu⟩

theorem State.HasRoom.raise (h : s.HasRoom k n) (al : Alert) : (s.raise al).HasRoom k n := h.of_view (s.queueView_raise al)

theorem State.HasRoom.withHandler (h : s.HasRoom k n) (x : Handler) : (s.withHandler x).HasRoom k n :=
  h.of_view (s.queueView_withHandler x)

/-- A quest notice takes one of the places left (R127, R159). -/
theorem State.HasRoom.notify (h : s.HasRoom (k + 1) n) (q : QuestNotice) : (s.notify q).HasRoom k n := by
  have quests := h.quests
  exact ⟨fun j => by simpa using (h.arms j).mono (Nat.le_succ k), h.highMark,
    by rw [State.notify_quests, List.length_append, List.length_singleton]; omega, h.events, h.buffer⟩

/-- An echo takes one of the places left (R127, R160). -/
theorem State.HasRoom.placeEcho (h : s.HasRoom k (n + 1)) (e : Echo) : (s.placeEcho e).HasRoom k n := by
  have events := h.events
  exact ⟨fun j => by simpa using h.arms j, h.highMark, h.quests,
    by rw [State.placeEcho_events, List.length_append, List.length_singleton]; omega, h.buffer⟩

/-- Notice queues that have not grown leave the room (R161, R163). -/
theorem State.HasRoom.withNotices (h : s.HasRoom k n) {x : Notices} (quests : x.quests.length ≤ s.notices.quests.length)
    (events : x.events.length ≤ s.notices.events.length) : (s.withNotices x).HasRoom k n :=
  ⟨fun j => by simpa using h.arms j, h.highMark, (Nat.add_le_add_right quests k).trans h.quests,
    (Nat.add_le_add_right events n).trans h.events, h.buffer⟩

/-! ### The receive buffer (R165 to R170) -/

theorem Uplink.afterRise_bufferCount (u : Uplink) : u.afterRise.bufferCount = u.bufferCount := by
  simp [Uplink.bufferCount]

theorem Uplink.afterFall_bufferCount (u : Uplink) : u.afterFall.bufferCount = u.bufferCount := by
  simp [Uplink.bufferCount]

/-- The bytes of complete frames are bytes of the buffer (R169). -/
theorem Uplink.frames_le_bufferCount (u : Uplink) : (u.frames.map List.length).sum ≤ u.bufferCount := Nat.le_add_right _ _

theorem State.HasRoom.garble (h : s.HasRoom k n) (next : RxState) : (s.garble next).HasRoom k n := by
  refine (h.withUplink ?_).raise .uplinkGarbled
  rw [Uplink.afterFall_bufferCount]
  simpa [Uplink.bufferCount] using s.uplink.frames_le_bufferCount.trans h.buffer

theorem State.HasRoom.beginFrame (h : s.HasRoom k n) : (s.withUplink s.uplink.beginFrame).HasRoom k n :=
  h.withUplink (by simpa [Uplink.bufferCount, Uplink.beginFrame] using s.uplink.frames_le_bufferCount.trans h.buffer)

/-- A complete frame's bytes stay in the buffer (R167, R169). -/
theorem State.HasRoom.endFrame (h : s.HasRoom k n) : s.endFrame.HasRoom k n := by
  rcases s.endFrame_cases with ⟨-, he⟩ | ⟨-, he⟩ <;> rw [he]
  · exact h.withUplink (by simpa [Uplink.bufferCount] using h.buffer)
  · exact h.garble .idle

/-- A byte is stored only where the buffer has a free place (R169). -/
theorem State.HasRoom.storeByte (h : s.HasRoom k n) (b : Byte) : (s.storeByte b).HasRoom k n := by
  rcases s.storeByte_cases b with ⟨-, hb⟩ | ⟨free, u, hu, hb⟩
  · rw [hb]
    exact h.garble .discard
  · have stored : (s.withUplink u).HasRoom k n := h.withUplink (by
      rw [hu, Uplink.afterRise_bufferCount]
      simp only [Uplink.bufferCount, List.length_append, List.length_singleton] at free ⊢
      omega)
    rcases hb with ⟨-, hb⟩ | ⟨-, ⟨-, hb⟩ | ⟨-, hb⟩⟩ <;> rw [hb]
    · exact stored.garble .discard
    · exact stored.endFrame
    · exact stored

theorem State.HasRoom.contentByte (h : s.HasRoom k n) (b : Byte) : (s.contentByte b).HasRoom k n := by
  unfold State.contentByte
  split
  · split
    · exact h.garble .discard
    · exact h.withUplink h.buffer
  · split
    · split
      · exact h.storeByte _
      · exact h.garble .discard
    · exact h.storeByte b

theorem State.HasRoom.frameByte (h : s.HasRoom k n) (b : Byte) (stopOk : Bool) : (s.frameByte b stopOk).HasRoom k n := by
  unfold State.frameByte
  split
  · split
    · exact h.beginFrame
    · exact (h.withUplink (u := { s.uplink with rx := .discard }) h.buffer).raise _
  · split
    · exact h.garble .discard
    · split
      · exact (h.garble .frame).beginFrame
      · exact h.contentByte b
  · split
    · exact h.beginFrame
    · exact h

/-- Whatever byte is received, the buffer holds what it has room for (R165, R169). -/
theorem State.HasRoom.receive (h : s.HasRoom k n) (b : Byte) (stopOk : Bool) : (s.receive b stopOk).HasRoom k n := by
  unfold State.receive
  split
  · split
    · exact h.withUplink h.buffer
    · split
      · exact h.of_view s.queueView_hostGo
      · exact h.frameByte b stopOk
  · exact h

/-- The bytes of a frame that is taken leave the buffer (R169, R174). -/
theorem State.HasRoom.takeFrame (h : s.HasRoom k n) {frame : List Byte} {rest : List (List Byte)}
    (hf : s.uplink.frames = frame :: rest) : (s.withUplink { s.uplink with frames := rest }.afterFall).HasRoom k n := by
  have buffer := h.buffer
  refine h.withUplink ?_
  rw [Uplink.afterFall_bufferCount]
  simp only [Uplink.bufferCount, hf, List.map_cons, List.sum_cons] at buffer ⊢
  omega

theorem State.HasRoom.frameSent (h : s.HasRoom k n) (source : TxSource) : (s.frameSent source).HasRoom k n := by
  have fewer {α : Type} (l : List α) : l.tail.length ≤ l.length := by rw [List.length_tail]; exact Nat.sub_le _ _
  cases source with
  | reply => exact h.withHandler _
  | alert => exact h
  | quest held =>
    cases held with
    | false => exact h
    | true => exact h.withNotices (fewer _) (Nat.le_refl _)
  | event held =>
    cases held with
    | false => exact h
    | true => exact h.withNotices (Nat.le_refl _) (fewer _)

/-! ### The rotation -/

theorem State.HasRoom.faultArm (h : s.HasRoom k n) (i : ArmId) : (s.faultArm i).HasRoom k n :=
  (h.withArm ((h.arms i).halted _ _)).raise _

/-- A move of the pass leaves the queues, but that the fault empties one (R27, R39, R57). -/
theorem State.HasRoom.movePass (h : s.HasRoom k n) (i : ArmId) : (s.movePass i).HasRoom k n := by
  rcases s.movePass_cases i with hm | ⟨-, hm⟩ | ⟨-, -, hm⟩ | ⟨-, hp, hm⟩ | ⟨-, -, -, hm⟩ | ⟨-, -, -, hm⟩ <;> rw [hm]
  · exact h
  · exact h.withArm (h.arms i).reach
  · exact h.withArm (h.arms i).startRotation
  · exact h.withArm ((h.arms i).kept rfl rfl rfl (by simp [Arm.active, Arm.startRotation, hp]))
  · exact h.faultArm i
  · exact h.withArm ((h.arms i).kept rfl rfl rfl rfl)

theorem State.HasRoom.movePasses (h : s.HasRoom k n) (i : ArmId) (hold : Bool) (m : Nat) :
    (s.movePasses i hold m).HasRoom k n :=
  State.movePasses_induct (State.HasRoom k n) i (fun _ h _ _ => h.movePass i) hold m s h

theorem State.HasRoom.bring (h : s.HasRoom k n) (i : ArmId) : (s.bring i).HasRoom k n := h.movePasses i _ 6

theorem State.HasRoom.settle (h : s.HasRoom k n) (i : ArmId) : (s.settle i).HasRoom k n := h.movePasses i _ 6

theorem State.HasRoom.received (h : s.HasRoom k n) {x : Arm} (hx : x.HasRoom k) : (s.received i x).HasRoom k n :=
  State.HasRoom.bring (h.withArm (x := { x with line := .free }) (hx.freed rfl rfl (List.suffix_refl _) rfl)) i

theorem State.HasRoom.waitOver (h : s.HasRoom k n) (i : ArmId) (f : StartMark → StartMark) :
    (s.waitOver i f).HasRoom k n := by
  have noted : (s.withArm i { s.arm i with startMark := (s.arm i).startMark.map f }).HasRoom k n :=
    h.withArm ((h.arms i).kept rfl rfl rfl rfl)
  unfold State.waitOver
  simp only []
  split
  · split
    · exact noted.bring i
    · exact noted
  · exact h

/-! ### Answers and misses -/

/-- The pair is free and the FIFO has the place that was kept for the answer (R26). -/
def Arm.MayTake (x : Arm) : Prop := x.line = .free ∧ x.fifo.length < 16

theorem State.HasRoom.acceptEvent (h : s.HasRoom k n) (ht : (s.arm i).MayTake) (p : Fin 32) (e : TileEvent)
    (toggle : Bool) : (s.acceptEvent i p e toggle).HasRoom k n := by
  obtain ⟨line, fifo⟩ := ht
  rcases s.acceptEvent_cases i p e toggle rfl rfl with ⟨-, ha⟩ | ⟨-, -, ha⟩ | ⟨-, -, ha⟩ <;> rw [ha]
  · exact h.withArm ((h.arms i).kept rfl rfl rfl rfl)
  · exact h.withArm ((h.arms i).takes line fifo _ _)
  · exact ((h.withArm ((h.arms i).takes line fifo _ _).dozeOff).withArm (h.arms (ArmId.other i)).dozeOff).raise .wake

theorem State.HasRoom.answerPresent (h : s.HasRoom k n) (ht : (s.arm i).MayTake) (p : Fin 32) (ans : Answer) :
    (s.answerPresent i p ans).1.HasRoom k n := by
  have recorded (r : PresenceRec) : (s.withArm i ((s.arm i).withPresence p r)).HasRoom k n :=
    h.withArm ((h.arms i).kept rfl rfl rfl rfl)
  cases ans with
  | event e toggle more =>
    simp only [State.answerPresent]
    split
    · exact recorded _
    · exact (recorded _).acceptEvent (by rw [State.withArm_arm_self]; exact ht) p e toggle
  | idle | hello kind => exact recorded _

theorem State.HasRoom.answerValid (h : s.HasRoom k n) (ht : (s.arm i).MayTake) (p : Fin 32) (ans : Answer) :
    (s.answerValid i p ans).1.HasRoom k n := by
  have recorded (r : PresenceRec) : (s.withArm i ((s.arm i).withPresence p r)).HasRoom k n :=
    h.withArm ((h.arms i).kept rfl rfl rfl rfl)
  unfold State.answerValid
  simp only []
  split
  · split
    · exact h
    · exact (recorded _).of_view (State.queueView_raiseOpt _ _)
  · split
    · exact h.answerPresent ht p ans
    · refine ((recorded _).raise _).answerPresent ?_ p ans
      rw [State.raise_arm, State.withArm_arm_self]
      exact ht
    · exact recorded _
    · exact h
    · exact h

theorem State.HasRoom.answerMissed (h : s.HasRoom k n) (i : ArmId) (p : Fin 32) : (s.answerMissed i p).1.HasRoom k n :=
  State.HasRoom.of_view (h.withArm (x := (s.arm i).withPresence p _) ((h.arms i).kept rfl rfl rfl rfl))
    (State.queueView_raiseOpt _ _)

theorem State.HasRoom.afterOutcome {r : State × Bool} (h : r.1.HasRoom k n) (i : ArmId) :
    (State.afterOutcome i r).HasRoom k n := by
  unfold State.afterOutcome
  refine State.HasRoom.bring ?_ i
  split
  · exact h
  · exact h.withArm (h.arms i).leave

theorem State.HasRoom.endPoll (h : s.HasRoom k n) (i : ArmId) (poll : Poll) (valid : Bool) :
    (s.endPoll i poll valid).HasRoom k n :=
  h.withArm ((h.arms i).freed rfl rfl (List.suffix_refl _) rfl)

/-- The answer to a poll finds the place that was kept free for it (R26, R45). -/
theorem State.HasRoom.pollAnswered (h : s.HasRoom k n) {poll : Poll} {frame : List Byte}
    (hl : (s.arm i).line = .poll poll frame) (bytes : List LineByte) : (s.pollAnswered i poll bytes).HasRoom k n := by
  have ended (valid : Bool) := h.endPoll i poll valid
  have free : (s.arm i).fifo.length < 16 := (h.arms i).awaiting (by rw [hl]; rfl)
  unfold State.pollAnswered
  split
  · refine ((ended true).answerValid ?_ _ _).afterOutcome i
    rw [State.endPoll, State.withArm_arm_self]
    exact ⟨rfl, free⟩
  · exact (((ended false).withArm (((ended false).arms i).countError _)).answerMissed i _).afterOutcome i

end Room

end Sys2Proof.Machine
end

section
/-! Every command but the takes of event items leaves the room in the queues (R48, R51, R57, R126, R136). -/

namespace Sys2Proof.Machine

open Sys2Proof

/-! ### The requests -/

/-- An item that leaves the queues and buffers, and the high mark, as they are. -/
def keepsQueues (item : List Byte → State → State × Reply) : Prop :=
  ∀ (body : List Byte) (s : State), (item body s).1.queueView = s.queueView

theorem keepsQueues_diagCapture : keepsQueues diagCaptureItem := by
  intro body s
  unfold diagCaptureItem
  split <;> simp

theorem keepsQueues_armStatus : keepsQueues armStatusItem := by
  intro body s
  unfold armStatusItem
  split <;> rfl

theorem keepsQueues_tileRead : keepsQueues tileReadItem := by
  intro body s
  unfold tileReadItem
  split <;> rfl

theorem keepsQueues_ruleWrite : keepsQueues ruleWriteItem := by
  intro body s
  unfold ruleWriteItem
  split <;> simp

theorem keepsQueues_ruleRead : keepsQueues ruleReadItem := by
  intro body s
  unfold ruleReadItem
  split
  · rfl
  · simp only []
    split <;> simp

theorem keepsQueues_ruleEnable : keepsQueues ruleEnableItem := by
  intro body s
  unfold ruleEnableItem
  split
  · rfl
  · split <;> simp

theorem keepsQueues_ruleDisable : keepsQueues ruleDisableItem := by
  intro body s
  unfold ruleDisableItem
  split <;> simp

theorem keepsQueues_rawRead : keepsQueues rawReadItem := by
  intro body s
  unfold rawReadItem
  split <;> rfl

theorem keepsQueues_rawWrite : keepsQueues rawWriteItem := by
  intro body s
  unfold rawWriteItem
  split <;> simp

theorem keepsQueues_questWrite : keepsQueues questWriteItem := by
  intro body s
  unfold questWriteItem
  split
  · rfl
  · split <;> simp

theorem keepsQueues_questRead : keepsQueues questReadItem := by
  intro body s
  unfold questReadItem
  split <;> rfl

theorem keepsQueues_questStart : keepsQueues questStartItem := by
  intro body s
  unfold questStartItem
  split
  · rfl
  · repeat' split
    all_goals simp

theorem keepsQueues_questAbort : keepsQueues questAbortItem := by
  intro body s
  unfold questAbortItem
  split
  · rfl
  · split <;> simp

theorem keepsQueues_scoreSet : keepsQueues scoreSetItem := by
  intro body s
  unfold scoreSetItem
  split <;> rfl

theorem keepsQueues_turnSet : keepsQueues turnSetItem := by
  intro body s
  unfold turnSetItem
  split
  · rfl
  · split <;> rfl

theorem keepsQueues_inject : keepsQueues injectItem := by
  intro body s
  unfold injectItem
  split
  · split <;> rfl
  · rfl

theorem keepsQueues_engineHold : keepsQueues engineHoldItem := by
  intro body s
  unfold engineHoldItem
  split <;> rfl

theorem keepsQueues_engineRun : keepsQueues engineRunItem := by
  intro body s
  unfold engineRunItem
  split <;> rfl

section Commands

variable {s : State} {k n : Nat}

theorem parseSetup_highMark_le {body : List Byte} {r : SetupRequest} (h : parseSetup body = some r) : r.highMark ≤ 16 := by
  unfold parseSetup at h
  repeat' split at h
  all_goals cases h
  next ranges => exact ranges.2.2.2

/-- SETUP sets the high mark within the FIFO's capacity (R136). -/
theorem State.HasRoom.setupItem (h : s.HasRoom k n) (body : List Byte) : (setupItem body s).1.HasRoom k n := by
  unfold Machine.setupItem
  split
  · exact h
  · next r hr => exact ⟨fun j => by simpa using h.arms j, parseSetup_highMark_le hr, h.quests, h.events, h.buffer⟩

theorem State.HasRoom.tileWriteItem (h : s.HasRoom k n) (body : List Byte) : (tileWriteItem body s).1.HasRoom k n := by
  have stored (i : ArmId) (p : Fin 32) (new : TileRec) : (s.tileStored i p new).HasRoom k n :=
    State.HasRoom.of_view ((h.of_view (s.queueView_withTileMap _)).withArm ((h.arms i).rewrite p (s.mapRec i p) new))
      (State.queueView_withTileWrites _ _)
  cases hb : parseTileWrite body with
  | none => simpa only [Machine.tileWriteItem, hb] using h
  | some written =>
    obtain ⟨index, new⟩ := written
    rw [tileWriteItem_eq s (indexArm index) (indexPosition index) new (by rw [hb, tileIndex_index])]
    simp only []
    split
    · exact stored _ _ _
    · exact (stored _ _ _).bring _

/-- EFFECT-SEND appends only where the effect queue has a free place (R55, R58). -/
theorem State.HasRoom.effectSendItem (h : s.HasRoom 0 n) (body : List Byte) : (effectSendItem body s).1.HasRoom 0 n := by
  unfold Machine.effectSendItem
  split
  · exact h
  · next i e _ =>
    split
    · exact h
    · split
      · exact h
      · next free =>
        have fits : (s.arm i).HasRoom 1 :=
          ⟨(h.arms i).fifo, by simpa [Config.effectCapacity] using free, (h.arms i).awaiting, (h.arms i).inactive⟩
        rw [State.enqueue_eq]
        exact h.withArm (fits.joined e)

/-- GAME-RESET empties every queue but ALERT; the receive buffer stands (R139). -/
theorem State.HasRoom.gameResetItem (h : s.HasRoom k n) (body : List Byte) : (gameResetItem body s).1.HasRoom k n := by
  unfold Machine.gameResetItem
  split
  · refine ⟨fun j => ?_, h.highMark, (Nat.add_le_add_right (Nat.zero_le _) k).trans h.quests,
      (Nat.add_le_add_right (Nat.zero_le _) n).trans h.events, h.buffer⟩
    cases j with
    | a => exact (h.arms .a).gameReset
    | b => exact (h.arms .b).gameReset
  · exact h

/-- ARM-START keeps the FIFO and the effect queue, which an arm that was not active has empty (R33). -/
theorem State.HasRoom.armStartItem (h : s.HasRoom k n) (body : List Byte) : (armStartItem body s).1.HasRoom k n := by
  unfold Machine.armStartItem
  split
  · exact h
  · next i _ =>
    split
    · exact h
    · exact h.withArm ((h.arms i).shrunk (Nat.le_refl _) (Nat.le_refl _) (fun hl => Bool.noConfusion hl)
        fun ha => Bool.noConfusion ha)

theorem State.HasRoom.armStopItem (h : s.HasRoom k n) (body : List Byte) : (armStopItem body s).1.HasRoom k n := by
  unfold Machine.armStopItem
  split
  · exact h
  · next i _ =>
    exact h.withArm ((h.arms i).shrunk (Nat.zero_le _) (Nat.zero_le _) (fun hl => Bool.noConfusion hl) fun _ => ⟨rfl, rfl⟩)

theorem State.HasRoom.dozeItem (h : s.HasRoom k n) (body : List Byte) : (dozeItem body s).1.HasRoom k n := by
  unfold Machine.dozeItem
  split
  · exact h
  · exact (h.withArm (i := .a) (h.arms .a).dozing).withArm (i := .b) (h.arms .b).dozing
  · exact (h.withArm (i := .a) (h.arms .a).dozeOff).withArm (i := .b) (h.arms .b).dozeOff

theorem State.HasRoom.directItem (h : s.HasRoom k n) {kind : Byte} {item : List Byte → State → State × Reply}
    (hd : directItem kind = some item) (body : List Byte) : (item body s).1.HasRoom k n := by
  unfold Machine.directItem at hd
  split at hd <;> cases hd
  · exact h
  · exact h.of_view (keepsQueues_armStatus body s)
  · exact h.of_view (keepsQueues_tileRead body s)
  · exact h.armStartItem body
  · exact h.armStopItem body
  · exact h.dozeItem body
  · exact h.of_view (keepsQueues_diagCapture body s)

theorem State.HasRoom.decodeRequest (h : s.HasRoom k n) (kind : Byte) (body : List Byte) :
    (s.decodeRequest kind body).HasRoom k n := by
  unfold State.decodeRequest
  split
  · next item hd => exact (h.directItem hd body).withHandler _
  · split <;> exact h.withHandler _

theorem State.HasRoom.serveDirect (h : s.HasRoom k n) {item : List Byte → State → State × Reply} {body : List Byte}
    (hitem : (item body s).1.HasRoom k n) : (serveDirect item body s).HasRoom k n := by
  rcases serveDirect_cases item body s with ⟨-, hs⟩ | ⟨-, hs⟩ <;> rw [hs]
  · exact hitem.withHandler _
  · exact h

theorem State.HasRoom.serveItem (h : s.HasRoom k n) {item : List Byte → State → State × Reply}
    (hitem : ∀ {t : State}, t.HasRoom k n → ∀ body, (item body t).1.HasRoom k n) (kind : Byte) (body : List Byte) :
    (serveItem kind item body s).HasRoom k n := by
  rcases serveItem_cases kind item body s with ⟨-, hs⟩ | ⟨-, hs⟩ <;> rw [hs]
  · have taken : (s.take (.management kind body)).HasRoom k n := h.of_view (s.queueView_take _)
    exact ((hitem taken body).of_view (State.queueView_endItem _)).withHandler _
  · exact h

/-! ### The frames on the pairs -/

theorem Arm.nextFrame_active {x : Arm} {highMark : Nat} {choice : FrameChoice} (h : x.nextFrame highMark = some choice) :
    x.active = true := by
  by_contra ha
  rw [Arm.nextFrame_inactive (Bool.not_eq_true _ ▸ ha)] at h
  cases h

/-- A poll is chosen only with the FIFO below the high mark (R26). -/
theorem Arm.fifo_lt_of_nextFrame_poll {x : Arm} {highMark : Nat} (h : x.nextFrame highMark = some .poll) :
    x.fifo.length < highMark := by
  have ha := Arm.nextFrame_active h
  have ready : x.pollReady highMark = true := by
    by_contra hr
    rw [Bool.not_eq_true] at hr
    unfold Arm.nextFrame at h
    split at h
    · cases hd : x.assignDue <;> cases he : x.effects <;> simp [hd, he, hr] at h
    · cases h
  exact ((Arm.pollReady_iff ha highMark).mp ready).2

/-- A frame that starts leaves the queues; a poll starts only with room for its answer (R25, R26, R56). -/
theorem State.HasRoom.exec_send (h : s.HasRoom k n) {c : Instr} {i : ArmId}
    (hc : c = .pollSend i ∨ c = .effectFrameSend i ∨ c = .assignSend i) : ∃ t, exec c s = .next t ∧ t.HasRoom k n := by
  have brought := h.bring i
  have arm := brought.arms i
  rcases hc with rfl | rfl | rfl
  all_goals
    refine ⟨_, rfl, ?_⟩
    split
    case isFalse => exact h
    simp only []
    split
  · next hf =>
    exact brought.withArm (arm.sendPoll (Arm.nextFrame_active hf)
      ((Arm.fifo_lt_of_nextFrame_poll hf).trans_le brought.highMark))
  · exact brought
  · next hf => exact brought.withArm (arm.sends (Arm.nextFrame_active hf) rfl _)
  · exact brought
  · next hf => exact brought.withArm (arm.sends (Arm.nextFrame_active hf) rfl _)
  · exact brought

theorem Arm.HasRoom.assignSent {x : Arm} (h : x.HasRoom k) (p : Fin 32) (again : Bool) :
    (x.assignSent p again).HasRoom k := by
  rw [Arm.assignSent_eq]
  exact h.freed rfl rfl (List.suffix_refl _) rfl

/-- An effect frame that ends takes its entry out of the queue, where it still stands (R56, R57). -/
theorem Arm.HasRoom.effectSent {x : Arm} (h : x.HasRoom k) (held : Bool) :
    { x with line := .free, effects := if held then x.effects.tail else x.effects }.HasRoom k := by
  refine h.freed rfl rfl ?_ rfl
  cases held with
  | false => exact List.suffix_refl _
  | true => exact List.tail_suffix _

/-! ### All commands but the takes of event items -/

/-- The commands that may fill a queue on their own, or put all of them back to their power-on values. -/
def refillsQueues (c : Instr) : Prop :=
  takesEvent c ∨ (∃ body, c = .effectSend body) ∨ c = .powerOn ∨ c = .resetLine ∨ c = .rstnRelease

/-- Every other command leaves all the room that an event item in flight still needs. -/
theorem State.HasRoom.exec_of_not_refills (h : s.HasRoom k n) (c : Instr) (hc : ¬ refillsQueues c) :
    ∃ t, exec c s = .next t ∧ t.HasRoom k n := by
  have view {t : State} (hv : t.queueView = s.queueView) : t.HasRoom k n := h.of_view hv
  have served {item : List Byte → State → State × Reply} (hi : keepsQueues item) (kind : Byte) (body : List Byte) :
      (Machine.serveItem kind item body s).HasRoom k n := h.serveItem (fun ht body => ht.of_view (hi body _)) kind body
  simp only [refillsQueues, takesEvent, not_or] at hc
  obtain ⟨⟨tile, expiry, injected⟩, send, power, reset, release⟩ := hc
  cases c with
  | tileEventTake => exact absurd rfl tile
  | expiryTake => exact absurd rfl expiry
  | injectTake => exact absurd rfl injected
  | effectSend body => exact absurd ⟨body, rfl⟩ send
  | powerOn => exact absurd rfl power
  | resetLine => exact absurd rfl reset
  | rstnRelease => exact absurd rfl release
  | uplinkByteReceived b ok => exact ⟨_, rfl, h.receive b ok⟩
  | holdReceived ok => exact ⟨_, rfl, h.receive 0xF1 ok⟩
  | goReceived ok => exact ⟨_, rfl, h.receive 0xF2 ok⟩
  | partialFrameTimeout =>
    refine ⟨_, rfl, ?_⟩
    split
    · exact h.garble .idle
    · exact h
  | discardQuiet =>
    refine ⟨_, rfl, ?_⟩
    split
    · exact h.withUplink h.buffer
    · exact h
  | flowByteSend =>
    refine ⟨_, rfl, ?_⟩
    split
    · exact h.withUplink h.buffer
    · exact h
  | transmitFrameStart =>
    refine ⟨_, rfl, view ?_⟩
    split
    · exact s.queueView_startFrame
    · rfl
  | transmitFrameEnd =>
    refine ⟨_, rfl, ?_⟩
    split
    · exact (h.withUplink (u := { s.uplink with tx := none }) h.buffer).frameSent _
    · exact h
  | requestTake =>
    refine ⟨_, rfl, ?_⟩
    split
    · next hf => exact (h.takeFrame hf).decodeRequest _ _
    · exact h
  | identify body => exact ⟨_, rfl, h.serveDirect h⟩
  | armStatus body => exact ⟨_, rfl, h.serveDirect (view (keepsQueues_armStatus body s))⟩
  | tileRead body => exact ⟨_, rfl, h.serveDirect (view (keepsQueues_tileRead body s))⟩
  | armStart body => exact ⟨_, rfl, h.serveDirect (h.armStartItem body)⟩
  | armStop body => exact ⟨_, rfl, h.serveDirect (h.armStopItem body)⟩
  | doze body => exact ⟨_, rfl, h.serveDirect (h.dozeItem body)⟩
  | diagCapture body => exact ⟨_, rfl, h.serveDirect (view (keepsQueues_diagCapture body s))⟩
  | setup body => exact ⟨_, rfl, h.serveItem State.HasRoom.setupItem 0x08 body⟩
  | tileWrite body => exact ⟨_, rfl, h.serveItem State.HasRoom.tileWriteItem 0x09 body⟩
  | gameReset body => exact ⟨_, rfl, h.serveItem State.HasRoom.gameResetItem 0x1B body⟩
  | ruleWrite body => exact ⟨_, rfl, served keepsQueues_ruleWrite 0x0A body⟩
  | ruleRead body => exact ⟨_, rfl, served keepsQueues_ruleRead 0x0B body⟩
  | ruleEnable body => exact ⟨_, rfl, served keepsQueues_ruleEnable 0x0C body⟩
  | ruleDisable body => exact ⟨_, rfl, served keepsQueues_ruleDisable 0x0D body⟩
  | rawRead body => exact ⟨_, rfl, served keepsQueues_rawRead 0x0E body⟩
  | rawWrite body => exact ⟨_, rfl, served keepsQueues_rawWrite 0x0F body⟩
  | questWrite body => exact ⟨_, rfl, served keepsQueues_questWrite 0x10 body⟩
  | questRead body => exact ⟨_, rfl, served keepsQueues_questRead 0x11 body⟩
  | questStart body => exact ⟨_, rfl, served keepsQueues_questStart 0x12 body⟩
  | questAbort body => exact ⟨_, rfl, served keepsQueues_questAbort 0x13 body⟩
  | scoreSet body => exact ⟨_, rfl, served keepsQueues_scoreSet 0x14 body⟩
  | scoreRead body => exact ⟨_, rfl, served (fun _ _ => rfl) 0x15 body⟩
  | turnSet body => exact ⟨_, rfl, served keepsQueues_turnSet 0x16 body⟩
  | inject body => exact ⟨_, rfl, served keepsQueues_inject 0x18 body⟩
  | engineHold body => exact ⟨_, rfl, served keepsQueues_engineHold 0x19 body⟩
  | engineRun body => exact ⟨_, rfl, served keepsQueues_engineRun 0x1A body⟩
  | questTick =>
    refine ⟨_, rfl, view ?_⟩
    split
    · exact s.queueView_tickAll _
    · rfl
  | questTimerExpiry q =>
    refine ⟨_, rfl, view ?_⟩
    split
    · exact s.queueView_tickTimer q
    · rfl
  | scrubSlot =>
    refine ⟨_, rfl, view ?_⟩
    split
    · exact s.queueView_scrubSlot
    · rfl
  | scrubWriteBack =>
    refine ⟨_, rfl, view ?_⟩
    split <;> rfl
  | bitUpset entry position => exact ⟨_, rfl, view rfl⟩
  | pollSend i => exact h.exec_send (.inl rfl)
  | effectFrameSend i => exact h.exec_send (.inr (.inl rfl))
  | assignSend i => exact h.exec_send (.inr (.inr rfl))
  | effectFrameEnd i =>
    refine ⟨_, rfl, ?_⟩
    split
    · exact State.HasRoom.settle (h.withArm ((h.arms i).effectSent _)) i
    · exact h
  | assignEnd i =>
    refine ⟨_, rfl, ?_⟩
    split
    · exact State.HasRoom.settle (h.withArm ((h.arms i).assignSent _ _)) i
    · exact h
  | pollAnswer i bytes =>
    refine ⟨_, rfl, ?_⟩
    split
    · next hl => exact h.pollAnswered hl bytes
    · exact h.received (h.arms i)
    · exact h
  | replyWindowClose i =>
    refine ⟨_, rfl, ?_⟩
    split
    · exact ((h.endPoll i _ false).answerMissed i _).afterOutcome i
    · exact h.received (h.arms i)
    · exact h
  | strayFrame i frame =>
    refine ⟨_, rfl, ?_⟩
    split
    · exact h.received ((h.arms i).countError .stray)
    · exact h
  | dozeWaitEnd i => exact ⟨_, rfl, h.waitOver i _⟩
  | emptyRotationWaitEnd i => exact ⟨_, rfl, h.waitOver i _⟩

/-- Whatever the other blocks do inside an event item leaves the room that the item still needs (R126, R127, R130). -/
theorem State.HasRoom.besides (c : Instr) (s : State) (h : s.HasRoom k n) : (besides c s).HasRoom k n := by
  by_cases hc : refillsQueues c
  · have idle : Machine.besides c s = s := by
      rcases hc with (rfl | rfl | rfl) | ⟨body, rfl⟩ | rfl | rfl | rfl <;> rfl
    rwa [idle]
  · rcases besides_eq c s with hb | ⟨-, hb⟩
    · rwa [hb]
    · obtain ⟨t, ht, room⟩ := h.exec_of_not_refills c hc
      rwa [Host.Outcome.next.inj (hb.symm.trans ht)]

end Commands

end Sys2Proof.Machine
end

section
/-! An event item never uses more room than the admission test has found (R51, R114, R116, R126, R127). -/

namespace Sys2Proof.Machine

open Sys2Proof

/-! ### One action -/

section Action

variable {s t : State} {k n : Nat}

/-- An effect action appends at most one entry to each effect queue (R52 to R54). -/
theorem State.HasRoom.performEffect (h : s.HasRoom (k + 1) n) (e : Effect) (target : EffectTarget) (ev : Event) :
    (performEffect s e target ev).HasRoom k n := by
  have less : s.HasRoom k n := h.mono (Nat.le_succ k) (Nat.le_refl n)
  have appended (i : ArmId) (entry : EffectEntry) : (s.enqueue i entry).HasRoom k n := by
    rw [State.enqueue_eq]
    exact less.withArm ((h.arms i).joined entry)
  have both (entry : EffectEntry) : ((s.enqueue .a entry).enqueue .b entry).HasRoom k n := by
    rw [State.enqueue_eq _ .b]
    refine (appended .a entry).withArm ?_
    rw [State.enqueue_eq, State.withArm_arm_ne _ _ _ _ (by simp)]
    exact (h.arms .b).joined entry
  have toTile (i : ArmId) (p : Fin 32) : (effectToTile s i p e).HasRoom k n := by
    unfold effectToTile
    split
    · exact appended _ _
    · exact less
  unfold Machine.performEffect
  split
  · split
    · exact toTile _ _
    · exact less
    · exact less
  · exact toTile _ _
  · exact both _
  · exact both _

theorem State.HasRoom.performScore (h : s.HasRoom (k + 1) n) (f : Score → Score → Score) (seat : Option (Fin 6))
    (amount : Fin 10000) : (performScore s f seat amount).HasRoom k n := by
  unfold Machine.performScore
  split
  · exact h.mono (Nat.le_succ k) (Nat.le_refl n)
  · refine State.HasRoom.notify ?_ _
    exact h.of_view (s.queueView_withEngine rfl)

theorem State.HasRoom.performStageAdvance (h : s.HasRoom (k + 1) n) (q : Fin 16) :
    (performStageAdvance s q).HasRoom k n := by
  unfold Machine.performStageAdvance
  simp only []
  split
  · exact (h.of_view (State.queueView_withQuest s q _)).notify _
  · exact (h.of_view (State.queueView_endQuest s q _ _)).notify _

theorem State.HasRoom.performQuestStart (h : s.HasRoom (k + 1) n) {q : Fin 16} (ht : performQuestStart s q = .done t) :
    t.HasRoom k n := by
  unfold Machine.performQuestStart at ht
  repeat' split at ht
  all_goals cases ht
  · exact h.mono (Nat.le_succ k) (Nat.le_refl n)
  · exact (h.of_view (s.queueView_activate q)).notify _

theorem State.HasRoom.performTurn (h : s.HasRoom (k + 1) n) (seat : Fin 6) : (performTurn s seat).HasRoom k n :=
  State.HasRoom.notify (h.of_view (State.queueView_withEngine s (x := { s.engine with turn := seat }) rfl)) _

theorem onHome_cases {home : Option (Fin 16)} {f : Fin 16 → State} (h : onHome s home f = .done t) :
    t = s ∨ ∃ q, t = f q := by
  cases home <;> cases h
  · exact .inl rfl
  · exact .inr ⟨_, rfl⟩

/-- An action takes at most one place of the QUEST queue, and one of each effect queue (R126, R132). -/
theorem State.HasRoom.performAction (h : s.HasRoom (k + 1) n) {ev : Event} {home : Option (Fin 16)} {a : Action}
    (ht : performAction s ev home a = .done t) : t.HasRoom k n := by
  have less : s.HasRoom k n := h.mono (Nat.le_succ k) (Nat.le_refl n)
  have ofHome {f : Fin 16 → State} (hf : ∀ q, (f q).HasRoom k n) (hd : onHome s home f = .done t) : t.HasRoom k n := by
    rcases onHome_cases hd with rfl | ⟨q, rfl⟩
    · exact less
    · exact hf q
  unfold Machine.performAction at ht
  cases hk : a.kind <;> rw [hk] at ht <;> simp only [] at ht
  case count | setIf | timerStart | timerStop =>
    refine ofHome ?_ ht
    exact fun _ => less.of_view rfl
  case stageAdvance => exact ofHome (fun q => h.performStageAdvance q) ht
  case stageSet => exact ofHome (fun q => (h.of_view (State.queueView_withQuest s q _)).notify _) ht
  case questComplete | questFail => exact ofHome (fun q => (h.of_view (State.queueView_endQuest s q _ _)).notify _) ht
  case questStart => exact h.performQuestStart ht
  case scoreAdd | scoreSub =>
    cases ht
    exact h.performScore _ _ _
  case effect =>
    cases ht
    exact h.performEffect _ _ ev
  case turnNext | turnSet =>
    cases ht
    exact h.performTurn _
  case signal =>
    cases ht
    exact h.notify _
  case ruleEnable | ruleDisable =>
    cases ht
    exact less.of_view rfl

/-- An action that is reached is performed, or leaves the state (R131). -/
theorem runAction_done {ev : Event} {home : Option (Fin 16)} {a : Action} (h : runAction s ev home a = .done t) :
    t = s ∨ performAction s ev home a = .done t := by
  cases ha : a.isHome with
  | false => exact .inr ((runAction_free s ev home a ha).symm.trans h)
  | true =>
    cases home with
    | none =>
      rw [runAction, if_pos ha] at h
      cases h
      exact .inl rfl
    | some q =>
      rcases runAction_home s ev q a ha with ⟨-, hr⟩ | ⟨-, -, hr⟩ | ⟨-, hr⟩ <;> rw [hr] at h
      · cases h
      · cases h
        exact .inl rfl
      · split at h
        · exact .inr h
        · cases h
          exact .inl rfl

theorem State.HasRoom.runAction (h : s.HasRoom (k + 1) n) {ev : Event} {home : Option (Fin 16)} {a : Action}
    (ht : runAction s ev home a = .done t) : t.HasRoom k n := by
  rcases runAction_done ht with rfl | hp
  · exact h.mono (Nat.le_succ k) (Nat.le_refl n)
  · exact h.performAction hp

/-! ### One rule -/

theorem State.HasRoom.during (h : s.HasRoom k n) (asides : List Aside) (m : Moment) : (during asides m s).HasRoom k n :=
  during_induct asides (State.HasRoom k n) State.HasRoom.besides m s h

/-- The actions of a rule take a place each at most, whatever the other blocks do between them (R114, R130). -/
theorem State.HasRoom.runActions (asides : List Aside) (ev : Event) (i : Fin 256) (home : Option (Fin 16))
    (acts : List Action) (place : Nat) (h : s.HasRoom (k + acts.length) n) :
    (runActions asides ev i home place s acts).HasRoom k n := by
  induction acts generalizing place s with
  | nil => exact h
  | cons a rest ih =>
    have now := h.during asides (.action i place)
    rw [Machine.runActions]
    cases ha : Machine.runAction (Machine.during asides (.action i place) s) ev home a with
    | done t => exact ih (place + 1) (now.runAction ha)
    | fault code => exact (now.mono (Nat.le_add_right k _) (Nat.le_refl n)).raise _

theorem length_of_mapM_eq_some {α β : Type} {f : α → Option β} {l : List α} {r : List β} (h : l.mapM f = some r) :
    r.length = l.length := by
  induction l generalizing r with
  | nil => cases h; rfl
  | cons a rest ih =>
    simp only [List.mapM_cons, Option.bind_eq_bind, Option.bind_eq_some_iff] at h
    obtain ⟨b, -, bs, hbs, hr⟩ := h
    cases hr
    rw [List.length_cons, List.length_cons, ih hbs]

/-- A rule has four actions at most (R101). -/
theorem decodeRule_actions_le {data : BitVec 224} {r : RuleRecord} (h : decodeRule data = some r) :
    r.actions.length ≤ 4 := by
  unfold decodeRule at h
  simp only [] at h
  split at h
  · next actions _ _ _ _ _ _ hacts =>
    split at h
    · cases h
      unfold recordActions at hacts
      rw [length_of_mapM_eq_some hacts]
      exact (List.length_take_le' _ _).trans_eq (List.length_range)
    · cases h
  · cases h

/-- A rule that fires takes four places at most (R114). -/
theorem State.HasRoom.fireRule (h : s.HasRoom (k + 4) n) (asides : List Aside) (ev : Event) (i : Fin 256) {r : RuleRecord}
    (hr : r.actions.length ≤ 4) : (fireRule asides ev i r s).HasRoom k n := by
  have room : s.HasRoom (k + r.actions.length) n := h.mono (Nat.add_le_add_left hr k) (Nat.le_refl n)
  unfold Machine.fireRule
  refine State.HasRoom.runActions asides ev i r.home r.actions 1 ?_
  split
  · exact room.of_view (s.queueView_withRule i _)
  · exact room

/-- At an ENABLED rule the scan takes no place, or fires it and takes four at most (R110, R114). -/
theorem State.HasRoom.scanRule (h : s.HasRoom (k + 4) n) (asides : List Aside) (ev : Event) (i : Fin 256) :
    ((scanRule asides ev i s).2.isSome = false → (scanRule asides ev i s).1.HasRoom (k + 4) n) ∧
    (scanRule asides ev i s).1.HasRoom k n := by
  have read : (checkedRead .scan i s).1.HasRoom (k + 4) n := h.of_view (queueView_checkedRead s .scan i)
  rcases scanRule_cases asides ev s i with hs | ⟨r, hr, -, hs⟩ <;> rw [hs]
  · exact ⟨fun _ => read, read.mono (Nat.le_add_right k 4) (Nat.le_refl n)⟩
  · obtain ⟨data, -, hd⟩ := Option.bind_eq_some_iff.mp hr
    exact ⟨fun hn => Bool.noConfusion hn, read.fireRule asides ev i (decodeRule_actions_le hd)⟩

/-! ### The scan and the item -/

/-- With `m` rules left to fire, at most four in all, the scan takes four places for each at most (R116, R126, R127). -/
theorem State.HasRoom.scanRules (asides : List Aside) (ev : Event) (rules : List (Fin 256)) (fired m : Nat)
    (hm : fired + m + 1 = 4) (h : s.HasRoom (4 * (m + 1)) n) :
    (scanRules asides ev fired s rules).1.HasRoom 0 n := by
  induction rules generalizing s fired m with
  | nil => exact h.mono (Nat.zero_le _) (Nat.le_refl n)
  | cons i rest ih =>
    obtain ⟨now, hnow⟩ : ∃ now, now = Machine.during asides (.fetch i) s := ⟨_, rfl⟩
    have room : now.HasRoom (4 * m + 4) n := hnow ▸ h.during asides (.fetch i)
    by_cases he : now.rule i = .enabled
    · obtain ⟨unfired, here⟩ := room.scanRule asides ev i
      cases hf : (Machine.scanRule asides ev i now).2.isSome with
      | false =>
        rw [scanRules_skip asides ev fired s now i rest hnow he hf]
        exact ih fired m hm (unfired hf)
      | true =>
        rw [scanRules_fire asides ev fired s now i rest hnow he hf]
        split
        · next goesOn =>
          have more : fired + 1 < 4 := by simpa using (Bool.and_eq_true_iff.mp goesOn).2
          obtain ⟨l, rfl⟩ : ∃ l, m = l + 1 := ⟨m - 1, by omega⟩
          exact ih (fired + 1) l (by omega) here
        · exact here.mono (Nat.zero_le _) (Nat.le_refl n)
    · rw [scanRules_pass asides ev fired s now i rest hnow he]
      exact ih fired m hm room

/-- An event item finds room for all that its scan and its echo decision append (R119, R126, R127). -/
theorem State.HasRoom.runEvent (h : s.HasRoom 16 1) (asides : List Aside) (ev : Event) :
    (runEvent asides ev s).HasRoom 0 0 := by
  have scanned : (Machine.scanRules asides ev 0 s allRules).1.HasRoom 0 1 :=
    State.HasRoom.scanRules asides ev allRules 0 3 rfl h
  have now := scanned.during asides .echo
  refine State.HasRoom.of_view ?_ (State.queueView_endItem _)
  split
  · exact now.placeEcho _
  · exact now.mono (Nat.le_refl 0) (Nat.zero_le 1)

/-! ### Admission -/

/-- Where the admission test passes there is room for an event item; an arm that drives nothing has an empty effect queue
(R57, R126). -/
theorem State.HasRoom.admitted (h : s.HasRoom 0 0) (ha : s.admission = true) : s.HasRoom 16 1 := by
  simp only [State.admission, Bool.and_eq_true, decide_eq_true_eq] at ha
  obtain ⟨⟨⟨quests, events⟩, admitsA⟩, admitsB⟩ := ha
  have admits (i : ArmId) : (s.arm i).admits = true := by
    cases i with
    | a => exact admitsA
    | b => exact admitsB
  refine ⟨fun i => ⟨(h.arms i).fifo, ?_, (h.arms i).awaiting, (h.arms i).inactive⟩, h.highMark, quests, events, h.buffer⟩
  cases hx : (s.arm i).active with
  | false => simp [((h.arms i).inactive hx).1]
  | true => simpa [Arm.admits, hx, Config.admissionRoom, Config.effectCapacity] using admits i

/-- The arbiter takes an event item only where the admission test passes (R123, R126). -/
theorem State.admission_of_choose {c : Choice} (h : s.choose = some c) (hc : ∀ kind body, c ≠ .management kind body) :
    s.admission = true := by
  unfold State.choose at h
  split at h
  · split at h
    · cases h
      exact absurd rfl (hc _ _)
    · split at h
      · next ha => exact (Bool.and_eq_true_iff.mp ha).2
      · cases h
  · cases h

theorem State.HasRoom.runTileEvent (h : s.HasRoom 16 1) (i : ArmId) (r : EventRecord) : (s.runTileEvent i r).HasRoom 0 0 := by
  have taken : (s.withArm i { s.arm i with fifo := (s.arm i).fifo.tail }).HasRoom 16 1 := by
    refine h.withArm ((h.arms i).shrunk ?_ (Nat.le_refl _) id (h.arms i).inactive)
    rw [List.length_tail]
    exact Nat.sub_le _ _
  refine State.HasRoom.runEvent ?_ _ _
  exact taken.of_view rfl

theorem State.HasRoom.runExpiry (h : s.HasRoom 16 1) (q : Fin 16) : (s.runExpiry q).HasRoom 0 0 := by
  unfold State.runExpiry
  simp only []
  split
  · have left : s.HasRoom 1 0 := h.mono (by decide) (by decide)
    exact State.HasRoom.of_view (State.HasRoom.notify (left.of_view rfl) (.failed q .timedOut)) (State.queueView_endItem _)
  · refine State.HasRoom.runEvent ?_ _ _
    exact h.of_view rfl

theorem State.HasRoom.runInject (h : s.HasRoom 16 1) (code : Byte) : (s.runInject code).HasRoom 0 0 := by
  refine State.HasRoom.runEvent ?_ _ _
  exact h.of_view rfl

theorem State.HasRoom.exec_take (h : s.HasRoom 0 0) {c : Instr} (hc : takesEvent c) :
    ∃ t, exec c s = .next t ∧ t.HasRoom 0 0 := by
  rcases hc with rfl | rfl | rfl
  · refine ⟨_, rfl, ?_⟩
    split
    · next hch => exact (h.admitted (State.admission_of_choose hch (by simp))).runTileEvent _ _
    · exact h
  · refine ⟨_, rfl, ?_⟩
    split
    · next hch => exact (h.admitted (State.admission_of_choose hch (by simp))).runExpiry _
    · exact h
  · refine ⟨_, rfl, ?_⟩
    split
    · next hch => exact (h.admitted (State.admission_of_choose hch (by simp))).runInject _
    · exact h

/-- A reset leaves every queue at its power-on value (R140). -/
theorem State.hasRoom_of_reset (h : t.queueView = State.reset.queueView) : t.HasRoom 0 0 := by
  obtain ⟨-, -, queues, -⟩ := resetStateIsSound
  exact ((State.queuesSound_iff _).mp queues).of_view h

theorem State.HasRoom.exec (h : s.HasRoom 0 0) (c : Instr) : ∃ t, exec c s = .next t ∧ t.HasRoom 0 0 := by
  by_cases hc : refillsQueues c
  · rcases hc with ht | ⟨body, rfl⟩ | rfl | rfl | rfl
    · exact h.exec_take ht
    · exact ⟨_, rfl, h.serveItem State.HasRoom.effectSendItem 0x17 body⟩
    · exact ⟨_, rfl, State.hasRoom_of_reset rfl⟩
    · exact ⟨_, rfl, State.hasRoom_of_reset rfl⟩
    · refine ⟨_, rfl, ?_⟩
      split
      · exact State.hasRoom_of_reset rfl
      · exact h
  · exact h.exec_of_not_refills c hc

end Action

/-- Settles O8: with the room that an event item still needs as the invariant, which every command of another block
leaves, and of which the scan uses four places for each of four rules at most. -/
theorem noQueueEverOverflows : Obligations.NoQueueEverOverflows := by
  intro s t hs h
  rw [State.queuesSound_iff] at hs ⊢
  unfold step at h
  split at h
  · cases h
    exact hs
  · next c rest _ =>
    have dequeued : (s.withPending rest).HasRoom 0 0 := hs.of_view (s.queueView_withPending rest)
    obtain ⟨u, hu, room⟩ := dequeued.exec c
    rwa [Host.Outcome.next.inj (h.symm.trans hu)]

end Sys2Proof.Machine
end

section
/-! DOZE at both arms (R40, R42), and what a command of one arm's pair leaves alone (R20, R21, R36, R43). -/

namespace Sys2Proof.Machine

open Sys2Proof

/-! ### DOZE -/

/-- A body is one on/off value exactly when it is that value's byte (R40). -/
theorem oneOnOff_eq_some {body : List Byte} {v : Bool} : oneOnOff body = some v ↔ body = [yesNoCode v] := by
  match body with
  | [] | _ :: _ :: _ => simp [oneOnOff]
  | [b] => simp [oneOnOff, yesNoField_eq_some]

section DozeOff

variable (x : Arm)

@[simp] theorem Arm.dozeOff_doze : x.dozeOff.doze = false := by
  unfold Arm.dozeOff
  split
  · rfl
  · next h => exact Bool.eq_false_iff.mpr h

/-- The end of doze touches the flag and the start mark only (R40, R42). -/
theorem Arm.dozeOff_eq : x.dozeOff = { x with doze := false, startMark := x.dozeOff.startMark } := by
  unfold Arm.dozeOff
  split
  · rfl
  · next h => rw [← Bool.eq_false_iff.mpr h]

/-- A wait under R42 is over with the doze (R42). -/
theorem Arm.dozeOff_mayStart (hd : x.doze = true) (hp : x.pass = .between) : x.dozeOff.mayStart = true := by
  cases hm : x.startMark <;> simp [Arm.dozeOff, Arm.mayStart, hd, hp, hm]

theorem Arm.dozeOff_startMark (h : x.doze = false ∨ x.pass ≠ .between) : x.dozeOff.startMark = x.startMark := by
  unfold Arm.dozeOff
  split
  · next hd =>
    have hp := h.resolve_left (by simp [hd])
    cases hx : x.pass with
    | between => exact absurd hx hp
    | reaching | visiting polled | ended => rfl
  · rfl

end DozeOff

/-- Settles O25: the item's two bodies, and the end of doze arm by arm. -/
theorem dozeSetsBothFlags : Obligations.DozeSetsBothFlags := by
  intro s body hs
  have served : exec (.doze body) s = .next ((dozeItem body s).1.withHandler (.reply (dozeItem body s).2)) :=
    congrArg _ (serveDirect_idle dozeItem body hs)
  refine ⟨fun hb => ?_, fun hb => ?_, fun h0 h1 => ?_⟩
  · have on : oneOnOff body = some true := oneOnOff_eq_some.mpr hb
    rw [served]
    simp only [dozeItem, on]
    rfl
  · have off : oneOnOff body = some false := oneOnOff_eq_some.mpr hb
    refine ⟨(s.withArm .a s.armA.dozeOff).withArm .b s.armB.dozeOff, ?_, fun i => ?_, rfl⟩
    · rw [served]
      simp only [dozeItem, off]
      rfl
    · have arm : ((s.withArm .a s.armA.dozeOff).withArm .b s.armB.dozeOff).arm i = (s.arm i).dozeOff := by cases i <;> rfl
      rw [arm]
      exact ⟨(s.arm i).dozeOff_doze, (s.arm i).dozeOff_eq, (s.arm i).dozeOff_mayStart, (s.arm i).dozeOff_startMark⟩
  · have bad : oneOnOff body = none := Option.eq_none_iff_forall_ne_some.mpr fun v hv => by
      rw [oneOnOff_eq_some] at hv
      cases v
      · exact h0 hv
      · exact h1 hv
    rw [served]
    simp only [dozeItem, bad]
    rfl

/-! ### The blocks that a command of one arm's pair touches -/

section WithinPair

variable {s t u : State} {i : ArmId}

/-- Nothing but the controller of arm `i` and the ALERT queue has changed from `s` to `t`. -/
def State.WithinArm (s : State) (i : ArmId) (t : State) : Prop := ∃ x q, t = s.armAndAlerts i x q

theorem State.WithinArm.refl (s : State) (i : ArmId) : s.WithinArm i s := ⟨_, _, (s.armAndAlerts_self i).symm⟩

theorem State.WithinArm.withArm (h : s.WithinArm i t) (x : Arm) : s.WithinArm i (t.withArm i x) := by
  obtain ⟨y, q, rfl⟩ := h
  exact ⟨x, q, s.armAndAlerts_withArm i y x q⟩

theorem State.WithinArm.raise (h : s.WithinArm i t) (al : Alert) : s.WithinArm i (t.raise al) := by
  obtain ⟨y, q, rfl⟩ := h
  exact ⟨y, _, s.armAndAlerts_raise i y q al⟩

theorem State.WithinArm.raiseOpt (h : s.WithinArm i t) (al : Option Alert) : s.WithinArm i (t.raiseOpt al) := by
  cases al with
  | none => exact h
  | some al => exact h.raise al

/-- From `s` to `t` nothing but arm `i`, the ALERT queue, and the doze of the other arm has changed, and the last only where
arm `i` was dozing itself (R43). -/
structure State.WithinPair (s : State) (i : ArmId) (t : State) : Prop where
  other : t.arm (ArmId.other i) = s.arm (ArmId.other i) ∨
    ((s.arm i).doze = true ∧ t.arm (ArmId.other i) = (s.arm (ArmId.other i)).dozeOff)
  rest : t.tileMap = s.tileMap ∧ t.engine = s.engine ∧ t.timers = s.timers ∧ t.memory = s.memory ∧
    t.uplink = s.uplink ∧ t.handler = s.handler ∧ t.notices.quests = s.notices.quests ∧
    t.notices.events = s.notices.events

theorem State.WithinArm.withinPair (h : s.WithinArm i t) : s.WithinPair i t := by
  obtain ⟨x, q, rfl⟩ := h
  refine ⟨.inl (s.armAndAlerts_other i x q), ?_⟩
  cases i <;> exact ⟨rfl, rfl, rfl, rfl, rfl, rfl, rfl, rfl⟩

theorem State.WithinPair.trans (h : s.WithinPair i t) (hu : t.WithinArm i u) : s.WithinPair i u := by
  obtain ⟨x, q, rfl⟩ := hu
  refine ⟨by rw [State.armAndAlerts_other]; exact h.other, ?_⟩
  cases i <;> exact h.rest

theorem State.withinArm_movePasses (s : State) (i : ArmId) (hold : Bool) (n : Nat) : s.WithinArm i (s.movePasses i hold n) :=
  ⟨_, _, s.movePasses_frame i hold n⟩

theorem State.WithinArm.trans (h : s.WithinArm i t) (hu : t.WithinArm i u) : s.WithinArm i u := by
  obtain ⟨x, q, rfl⟩ := h
  obtain ⟨y, r, rfl⟩ := hu
  exact ⟨y, r, by cases i <;> rfl⟩

theorem State.WithinArm.bring (h : s.WithinArm i t) : s.WithinArm i (t.bring i) := h.trans (t.withinArm_movePasses i _ 6)

theorem State.WithinArm.settle (h : s.WithinArm i t) : s.WithinArm i (t.settle i) := h.trans (t.withinArm_movePasses i _ 6)

theorem State.withinArm_received (s : State) (i : ArmId) (x : Arm) : s.WithinArm i (s.received i x) :=
  State.WithinArm.bring ((State.WithinArm.refl s i).withArm _)

theorem State.withinArm_waitOver (s : State) (i : ArmId) (f : StartMark → StartMark) : s.WithinArm i (s.waitOver i f) := by
  have noted (x : Arm) : s.WithinArm i (s.withArm i x) := (State.WithinArm.refl s i).withArm x
  unfold State.waitOver
  simp only []
  split
  · split
    · exact (noted _).bring
    · exact noted _
  · exact .refl s i

/-! ### Answers and misses -/

theorem State.WithinArm.answerMissed (h : s.WithinArm i t) (p : Fin 32) : s.WithinArm i (t.answerMissed i p).1 :=
  (h.withArm _).raiseOpt _

theorem State.withinArm_afterOutcome (r : State × Bool) (i : ArmId) : r.1.WithinArm i (State.afterOutcome i r) := by
  unfold State.afterOutcome
  refine State.WithinArm.bring ?_
  split
  · exact .refl _ i
  · exact (State.WithinArm.refl _ i).withArm _

/-- A new event ends the doze of the other arm only where the arm's own flag is on (R29, R43). -/
theorem State.WithinArm.acceptEvent (h : s.WithinArm i t) (hd : (t.arm i).doze = (s.arm i).doze) (p : Fin 32) (e : TileEvent)
    (toggle : Bool) : s.WithinPair i (t.acceptEvent i p e toggle) := by
  rcases t.acceptEvent_cases i p e toggle rfl rfl with ⟨-, ha⟩ | ⟨-, -, ha⟩ | ⟨-, hdoze, ha⟩ <;> rw [ha]
  · exact (h.withArm _).withinPair
  · exact (h.withArm _).withinPair
  · obtain ⟨x, q, rfl⟩ := h
    rw [hd] at hdoze
    refine ⟨.inr ⟨hdoze, ?_⟩, ?_⟩
    · cases i <;> rfl
    · cases i <;> exact ⟨rfl, rfl, rfl, rfl, rfl, rfl, rfl, rfl⟩

theorem State.WithinArm.answerPresent (h : s.WithinArm i t) (hd : (t.arm i).doze = (s.arm i).doze) (p : Fin 32)
    (ans : Answer) : s.WithinPair i (t.answerPresent i p ans).1 := by
  cases ans with
  | event e toggle more =>
    simp only [State.answerPresent]
    split
    · exact (h.withArm _).withinPair
    · exact (h.withArm _).acceptEvent (by rw [State.withArm_arm_self]; exact hd) p e toggle
  | idle | hello kind => exact (h.withArm _).withinPair

theorem State.WithinArm.answerValid (h : s.WithinArm i t) (hd : (t.arm i).doze = (s.arm i).doze) (p : Fin 32)
    (ans : Answer) : s.WithinPair i (t.answerValid i p ans).1 := by
  unfold State.answerValid
  simp only []
  split
  · split
    · exact h.withinPair
    · exact ((h.withArm _).raiseOpt _).withinPair
  · split
    · exact h.answerPresent hd p ans
    · exact ((h.withArm _).raise _).answerPresent (by rw [State.raise_arm, State.withArm_arm_self]; exact hd) p ans
    · exact (h.withArm _).withinPair
    · exact h.withinPair
    · exact h.withinPair

theorem State.withinArm_endPoll (s : State) (i : ArmId) (poll : Poll) (valid : Bool) : s.WithinArm i (s.endPoll i poll valid) :=
  (State.WithinArm.refl s i).withArm _

theorem State.withinPair_pollAnswered (s : State) (i : ArmId) (poll : Poll) (bytes : List LineByte) :
    s.WithinPair i (s.pollAnswered i poll bytes) := by
  unfold State.pollAnswered
  split
  · have answered := (s.withinArm_endPoll i poll true).answerValid (by rw [State.endPoll, State.withArm_arm_self]) poll.position
    exact (answered _).trans (State.withinArm_afterOutcome _ i)
  · have counted := (s.withinArm_endPoll i poll false).withArm
    exact ((counted _).answerMissed _).withinPair.trans (State.withinArm_afterOutcome _ i)

/-! ### The commands -/

/-- The start of a frame, and where the rotation is brought to before it (R25). -/
theorem exec_withinArm_of_send {c : Instr} (hc : c = .pollSend i ∨ c = .effectFrameSend i ∨ c = .assignSend i) (s : State) :
    ∃ t, exec c s = .next t ∧ s.WithinArm i t := by
  have brought : s.WithinArm i (s.bring i) := (State.WithinArm.refl s i).bring
  rcases hc with rfl | rfl | rfl
  all_goals
    refine ⟨_, rfl, ?_⟩
    split
    · simp only []
      split
      · exact brought.withArm _
      · exact brought
    · exact .refl s i

theorem exec_withinPair {c : Instr} (hc : Instr.armOf c = some i) (s : State) : ∃ t, exec c s = .next t ∧ s.WithinPair i t := by
  have same : s.WithinPair i s := (State.WithinArm.refl s i).withinPair
  have sends (h : ∃ t, exec c s = .next t ∧ s.WithinArm i t) : ∃ t, exec c s = .next t ∧ s.WithinPair i t := by
    obtain ⟨t, ht, only⟩ := h
    exact ⟨t, ht, only.withinPair⟩
  cases c <;> cases hc
  case pollSend => exact sends (exec_withinArm_of_send (.inl rfl) s)
  case effectFrameSend => exact sends (exec_withinArm_of_send (.inr (.inl rfl)) s)
  case assignSend => exact sends (exec_withinArm_of_send (.inr (.inr rfl)) s)
  case dozeWaitEnd => exact ⟨_, rfl, (s.withinArm_waitOver i _).withinPair⟩
  case emptyRotationWaitEnd => exact ⟨_, rfl, (s.withinArm_waitOver i _).withinPair⟩
  case effectFrameEnd | assignEnd =>
    refine ⟨_, rfl, ?_⟩
    split
    · exact (State.WithinArm.settle ((State.WithinArm.refl s i).withArm _)).withinPair
    · exact same
  case strayFrame =>
    refine ⟨_, rfl, ?_⟩
    split
    · exact (s.withinArm_received i _).withinPair
    · exact same
  case pollAnswer bytes =>
    refine ⟨_, rfl, ?_⟩
    split
    · exact s.withinPair_pollAnswered i _ bytes
    · exact (s.withinArm_received i _).withinPair
    · exact same
  case replyWindowClose =>
    refine ⟨_, rfl, ?_⟩
    split
    · exact ((s.withinArm_endPoll i _ false).answerMissed _).withinPair.trans (State.withinArm_afterOutcome _ i)
    · exact (s.withinArm_received i _).withinPair
    · exact same

end WithinPair

/-- Settles O12: each command changes its arm and the ALERT queue; an accepted event of a dozing arm the other's doze. -/
theorem armCommandsStayOnTheirArm : Obligations.ArmCommandsStayOnTheirArm := by
  intro c i s t hc ht
  obtain ⟨u, hu, only⟩ := exec_withinPair hc s
  obtain rfl := Host.Outcome.next.inj (hu.symm.trans ht)
  exact ⟨only.other, only.rest⟩

end Sys2Proof.Machine
end

section
/-! The six checks of an answer, and which answers pass them (R21, R23, R179, R180). -/

namespace Sys2Proof.Machine

open Sys2Proof

/-! ### Kind, length and body -/

/-- The kinds of R21 with their lengths. -/
theorem upstreamLength_eq_some {kind length : Nat} : upstreamLength kind = some length ↔
    (length = 3 ∧ (kind = 8 ∨ kind = 10 ∨ kind = 11)) ∨ (length = 4 ∧ kind = 9) ∨
      (length = 5 ∧ (kind = 12 ∨ kind = 13)) := by
  unfold upstreamLength
  split
  case h_7 h8 h9 h10 h11 h12 h13 =>
    simp only [reduceCtorEq, false_iff]
    rintro (⟨-, h | h | h⟩ | ⟨-, h⟩ | ⟨-, h | h⟩)
    exacts [h8 h, h10 h, h11 h, h9 h, h12 h, h13 h]
  all_goals simp [eq_comm]

theorem tileKindField_isSome (b : Byte) : (tileKindField b).isSome = true ↔ b = 1 ∨ b = 2 := by
  revert b; decide

theorem pieceField_isSome (id seat : Byte) :
    (pieceField id seat).isSome = true ↔ id.toNat ≤ 63 ∧ (seat.toNat ≤ 5 ∨ seat.toNat = 7) := by
  have ids : (numberField 64 id).isSome = true ↔ id.toNat ≤ 63 := by revert id; decide
  have seats : (pieceSeatField seat).isSome = true ↔ seat.toNat ≤ 5 ∨ seat.toNat = 7 := by revert seat; decide
  rw [← ids, ← seats]
  unfold pieceField
  cases numberField 64 id <;> cases pieceSeatField seat <;> simp

/-- The fifth check of R23 on the bytes of a frame: tile kind, piece and seat within their ranges. -/
def bodyInRange (values : List Byte) : Prop :=
  (hiNibble (byteAt values 0) = 9 → byteAt values 2 = 1 ∨ byteAt values 2 = 2) ∧
  (hiNibble (byteAt values 0) = 12 ∨ hiNibble (byteAt values 0) = 13 →
    (byteAt values 2).toNat ≤ 63 ∧ ((byteAt values 3).toNat ≤ 5 ∨ (byteAt values 3).toNat = 7))

/-- In a frame of R21's kinds and lengths the body spells an answer exactly when its values are in range (R23). -/
theorem answerOf_isSome {head : Byte} {body : List Byte} (h : upstreamLength (hiNibble head) = some (body.length + 3))
    (address check : Byte) :
    (answerOf head body).isSome = true ↔ bodyInRange (head :: address :: (body ++ [check])) := by
  rcases upstreamLength_eq_some.mp h with ⟨length, kind⟩ | ⟨length, kind⟩ | ⟨length, kind⟩
  · obtain rfl : body = [] := List.length_eq_zero_iff.mp (by omega)
    rcases kind with kind | kind | kind <;> simp [answerOf, bodyInRange, byteAt, kind]
  · obtain ⟨k, rfl⟩ := List.length_eq_one_iff.mp (show body.length = 1 by omega)
    simpa [answerOf, bodyInRange, byteAt, kind] using tileKindField_isSome k
  · obtain ⟨id, seat, rfl⟩ := List.length_eq_two.mp (show body.length = 2 by omega)
    rcases kind with kind | kind <;> simpa [answerOf, bodyInRange, byteAt, kind] using pieceField_isSome id seat

/-! ### Which answer a frame spells -/

/-- The kind number of an answer (R180). -/
def Answer.kind (ans : Answer) : Nat :=
  match ans with
  | .idle => 8
  | .hello _ => 9
  | .event .press _ _ => 10
  | .event .release _ _ => 11
  | .event (.place _) _ _ => 12
  | .event (.lift _) _ _ => 13

/-- The kind stands in the upper half of the head byte (R179). -/
theorem Answer.code_kind (ans : Answer) : ans.code.1 = byteOf (16 * ans.kind) := by
  cases ans with
  | idle | hello k => rfl
  | event e toggle more => cases e <;> rfl

/-- The toggle and more bits of an event stand in the head byte (R179). -/
def Answer.bitsIn (ans : Answer) (head : Byte) : Prop :=
  match ans with
  | .event _ toggle more => head.getLsbD 0 = toggle ∧ head.getLsbD 2 = more
  | .idle => True
  | .hello _ => True

theorem pieceField_eq_some {id seat : Byte} {piece : Piece} :
    pieceField id seat = some piece ↔ id = byteOf piece.id.val ∧ seat = pieceSeatCode piece.seat := by
  constructor
  · unfold pieceField
    split
    · next i s hi hs =>
      rintro ⟨⟩
      refine ⟨(numberField_eq_some (by decide)).mp hi, ?_⟩
      unfold pieceSeatField at hs
      split at hs
      · cases hs; assumption
      · obtain ⟨n, hn, rfl⟩ := Option.map_eq_some_iff.mp hs
        exact (numberField_eq_some (by decide)).mp hn
    · rintro ⟨⟩
  · rintro ⟨rfl, rfl⟩
    exact pieceField_byteOf piece

/-- Kind nibble and body of R180, and the bits of R179, spell an answer. -/
theorem answerOf_eq_some {head : Byte} {body : List Byte} {ans : Answer} : answerOf head body = some ans ↔
    body = ans.code.2 ∧ hiNibble head = ans.kind ∧ ans.bitsIn head := by
  constructor
  · intro h
    unfold answerOf at h
    simp only [] at h
    split at h
    case h_1 kind => cases h; exact ⟨rfl, kind, trivial⟩
    case h_2 k kind =>
      obtain ⟨t, ht, rfl⟩ := Option.map_eq_some_iff.mp h
      exact ⟨by rw [tileKindField_eq_some.mp ht]; rfl, kind, trivial⟩
    case h_3 kind | h_4 kind => cases h; exact ⟨rfl, kind, rfl, rfl⟩
    case h_5 id seat kind | h_6 id seat kind =>
      obtain ⟨piece, hp, rfl⟩ := Option.map_eq_some_iff.mp h
      obtain ⟨rfl, rfl⟩ := pieceField_eq_some.mp hp
      exact ⟨rfl, kind, rfl, rfl⟩
    case h_7 => cases h
  · rintro ⟨rfl, kind, bits⟩
    cases ans with
    | idle =>
      have kind : hiNibble head = 8 := kind
      simp [answerOf, kind, Answer.code]
    | hello k =>
      have kind : hiNibble head = 9 := kind
      simp [answerOf, kind, Answer.code, tileKindField_eq_some.mpr rfl]
    | event e toggle more =>
      obtain ⟨rfl, rfl⟩ := bits
      cases e with
      | press =>
        have kind : hiNibble head = 10 := kind
        simp [answerOf, kind, Answer.code]
      | release =>
        have kind : hiNibble head = 11 := kind
        simp [answerOf, kind, Answer.code]
      | place piece =>
        have kind : hiNibble head = 12 := kind
        simp [answerOf, kind, Answer.code, pieceField_byteOf]
      | lift piece =>
        have kind : hiNibble head = 13 := kind
        simp [answerOf, kind, Answer.code, pieceField_byteOf]

/-- Only a HELLO has kind 9 (R180). -/
theorem Answer.isHello_iff (ans : Answer) : ans.isHello = true ↔ ans.kind = 9 := by
  cases ans with
  | idle | hello k => simp [Answer.isHello, Answer.kind]
  | event e toggle more => cases e <;> simp [Answer.isHello, Answer.kind]

theorem Answer.isHello_iff_exists (ans : Answer) : ans.isHello = true ↔ ∃ k, ans = .hello k := by
  cases ans <;> simp [Answer.isHello]

/-- An answer's frame is as long as its kind says (R21, R180). -/
theorem Answer.upstreamLength_code (ans : Answer) :
    upstreamLength ans.kind = some (ans.code.2.length + 3) := by
  cases ans with
  | idle | hello k => rfl
  | event e toggle more => cases e <;> rfl

/-- The bits of the head byte that the receiver does not ignore: the kind, and of an event the toggle and more bits
(R179). -/
def Answer.readBits (ans : Answer) : Byte :=
  match ans with
  | .event _ _ _ => 0xF5
  | _ => 0xF0

theorem spareBits_of_event {spare : Byte} (h : spare &&& 0xF5 = 0) : spare ∈ [(0 : Byte), 2, 8, 10] := by
  revert spare; decide

theorem eventHead_spare : ∀ kind ∈ [10, 11, 12, 13], ∀ spare ∈ [(0 : Byte), 2, 8, 10], ∀ toggle more,
    hiNibble (eventHead (byteOf (16 * kind)) toggle more ||| spare) = kind ∧
      (eventHead (byteOf (16 * kind)) toggle more ||| spare).getLsbD 0 = toggle ∧
      (eventHead (byteOf (16 * kind)) toggle more ||| spare).getLsbD 2 = more := by
  decide

theorem head_eq_eventHead (head : Byte) :
    head = eventHead (byteOf (16 * hiNibble head)) (head.getLsbD 0) (head.getLsbD 2) ||| (head &&& 0x0A) := by
  revert head; decide

theorem head_eq_kind (head : Byte) : head = byteOf (16 * hiNibble head) ||| 0 ||| (head &&& 0x0F) := by
  revert head; decide

/-- A head byte has the kind and the bits of an answer exactly when it is the answer's own with any value in the bits
that R179 leaves to the receiver to ignore. -/
theorem Answer.head_iff (ans : Answer) (head : Byte) : hiNibble head = ans.kind ∧ ans.bitsIn head ↔
    ∃ spare : Byte, spare &&& ans.readBits = 0 ∧ head = ans.code.1 ||| ans.bits ||| spare := by
  have noBits : ∀ kind ∈ [8, 9], ∀ spare : Byte, spare &&& 0xF0 = 0 →
      hiNibble (byteOf (16 * kind) ||| 0 ||| spare) = kind := by decide
  have spare0A : (head &&& 0x0A) &&& 0xF5 = 0 := by revert head; decide
  have spare0F : (head &&& 0x0F) &&& 0xF0 = 0 := by revert head; decide
  rw [ans.code_kind]
  cases ans with
  | idle | hello k =>
    constructor
    · rintro ⟨kind, -⟩
      exact ⟨head &&& 0x0F, spare0F, kind ▸ head_eq_kind head⟩
    · rintro ⟨spare, hs, rfl⟩
      exact ⟨noBits _ (by simp [Answer.kind]) spare hs, trivial⟩
  | event e toggle more =>
    constructor
    · rintro ⟨kind, rfl, rfl⟩
      exact ⟨head &&& 0x0A, spare0A, kind ▸ head_eq_eventHead head⟩
    · rintro ⟨spare, hs, rfl⟩
      exact eventHead_spare _ (by cases e <;> simp [Answer.kind]) spare (spareBits_of_event hs) toggle more

/-! ### The judgement -/

/-- The last two checks of R23, on what the body spells. -/
def Poll.judge (poll : Poll) (said : Option Answer) : Except LineError Answer :=
  match said with
  | none => .error .shape
  | some ans => if poll.greeting && !ans.isHello then .error .shape else .ok ans

section Judge

variable {poll : Poll} {bytes : List LineByte}

theorem any_stopBad (h : ∀ b ∈ bytes, b.stopOk = true) : (bytes.any fun b => !b.stopOk) = false := by
  simpa using h

theorem judgeAnswer_framing (h : ¬ ∀ b ∈ bytes, b.stopOk = true) : judgeAnswer poll bytes = .error .framing := by
  have bad : (bytes.any fun b => !b.stopOk) = true := by simpa using h
  simp only [judgeAnswer, bad, if_true]

theorem judgeAnswer_shape (hs : ∀ b ∈ bytes, b.stopOk = true)
    (h : upstreamLength (hiNibble (byteAt (bytes.map (·.value)) 0)) ≠ some (bytes.map (·.value)).length) :
    judgeAnswer poll bytes = .error .shape := by
  simp only [judgeAnswer, any_stopBad hs, Bool.false_eq_true, if_false, if_pos h]

/-- Behind the first two checks: the check byte, the address, and what the body spells (R23). -/
theorem judgeAnswer_shaped (hs : ∀ b ∈ bytes, b.stopOk = true) {head address check : Byte} {body : List Byte}
    (hv : bytes.map (·.value) = head :: address :: (body ++ [check]))
    (hl : upstreamLength (hiNibble head) = some (body.length + 3)) :
    judgeAnswer poll bytes =
      if armCheck (head :: address :: body) ≠ check then .error .check
      else if address.toNat ≠ poll.position.val then .error .stray
      else poll.judge (answerOf head body) := by
  have front : (head :: address :: (body ++ [check])).dropLast = head :: address :: body := by
    simp [List.dropLast]
  have length : (head :: address :: (body ++ [check])).length = body.length + 3 := by simp
  have last : byteAt (head :: address :: (body ++ [check])) (body.length + 3 - 1) = check := by simp [byteAt]
  have first : byteAt (head :: address :: (body ++ [check])) 0 = head := rfl
  have second : byteAt (head :: address :: (body ++ [check])) 1 = address := rfl
  unfold judgeAnswer
  simp only [hv, any_stopBad hs, front, length, last, first, second, hl, ne_eq, not_true_eq_false, if_false,
    Bool.false_eq_true, List.drop_succ_cons, List.drop_zero]
  rfl

/-- A frame with at least three bytes is a head, an address, a body and a check byte (R179). -/
theorem exists_frame_parts {values : List Byte} (h : 3 ≤ values.length) :
    ∃ head address body check, values = head :: address :: (body ++ [check]) := by
  obtain ⟨head, address, rest, rfl⟩ : ∃ head address rest, values = head :: address :: rest := by
    match values with
    | head :: address :: rest => exact ⟨head, address, rest, rfl⟩
  have : rest ≠ [] := by
    rintro rfl
    simp at h
  exact ⟨head, address, rest.dropLast, rest.getLast this, by rw [List.dropLast_append_getLast]⟩

theorem upstreamLength_ge {kind length : Nat} (h : upstreamLength kind = some length) : 3 ≤ length := by
  have := upstreamLength_eq_some.mp h
  omega

/-- The check byte is right exactly when all bytes together give 0x5A (R179). -/
theorem armCheck_eq_iff (bytes : List Byte) (check : Byte) :
    armCheck bytes = check ↔ (bytes ++ [check]).foldl (· ^^^ ·) 0 = 0x5A := by
  rw [List.foldl_append, armCheck]
  generalize bytes.foldl (· ^^^ ·) 0 = sum
  simp only [List.foldl_cons, List.foldl_nil]
  constructor
  · rintro rfl
    rw [← BitVec.xor_assoc, BitVec.xor_self, BitVec.zero_xor]
  · intro h
    rw [← h, ← BitVec.xor_assoc, BitVec.xor_self, BitVec.zero_xor]

/-- Behind the first two checks: what a wrong check byte, another address, and otherwise the body decide (R23). -/
theorem judgeAnswer_behind {values : List Byte} (hv : bytes.map (·.value) = values) (hs : ∀ b ∈ bytes, b.stopOk = true)
    (hl : upstreamLength (hiNibble (byteAt values 0)) = some values.length) :
    ∃ said : Option Answer,
      (values.foldl (· ^^^ ·) 0 ≠ 0x5A → judgeAnswer poll bytes = .error .check) ∧
      (values.foldl (· ^^^ ·) 0 = 0x5A → (byteAt values 1).toNat ≠ poll.position.val →
        judgeAnswer poll bytes = .error .stray) ∧
      (values.foldl (· ^^^ ·) 0 = 0x5A → (byteAt values 1).toNat = poll.position.val →
        judgeAnswer poll bytes = poll.judge said) ∧
      (said.isSome = true ↔ bodyInRange values) ∧
      ∀ ans, said = some ans → (ans.isHello = true ↔ hiNibble (byteAt values 0) = 9) := by
  obtain ⟨head, address, body, check, rfl⟩ := exists_frame_parts (upstreamLength_ge hl)
  have hl : upstreamLength (hiNibble head) = some (body.length + 3) := by simpa [byteAt] using hl
  have judged := judgeAnswer_shaped (poll := poll) hs hv hl
  have sum : (head :: address :: (body ++ [check])).foldl (· ^^^ ·) 0 = 0x5A ↔ armCheck (head :: address :: body) = check :=
    (armCheck_eq_iff (head :: address :: body) check).symm
  have second : byteAt (head :: address :: (body ++ [check])) 1 = address := rfl
  rw [ne_eq, sum, second, judged]
  refine ⟨answerOf head body, fun h => if_pos h, fun h1 h2 => ?_, fun h1 h2 => ?_, answerOf_isSome hl address check,
    fun ans h => ?_⟩
  · rw [if_neg (not_not.mpr h1), if_pos h2]
  · rw [if_neg (not_not.mpr h1), if_neg (not_not.mpr h2)]
  · obtain ⟨-, kind, -⟩ := answerOf_eq_some.mp h
    rw [ans.isHello_iff, ← kind]
    rfl

/-- A received answer passes the six checks exactly when it is a frame from the polled position that spells it (R23). -/
theorem judgeAnswer_eq_ok {ans : Answer} : judgeAnswer poll bytes = .ok ans ↔
    (poll.greeting = true → ans.isHello = true) ∧ ∃ head, answerOf head ans.code.2 = some ans ∧
      bytes = goodBytes (armFrame head (byteOf poll.position.val) ans.code.2) := by
  constructor
  · intro h
    by_cases hs : ∀ b ∈ bytes, b.stopOk = true
    case neg => rw [judgeAnswer_framing hs] at h; cases h
    by_cases hl : upstreamLength (hiNibble (byteAt (bytes.map (·.value)) 0)) = some (bytes.map (·.value)).length
    case neg => rw [judgeAnswer_shape hs hl] at h; cases h
    obtain ⟨head, address, body, check, hv⟩ := exists_frame_parts (upstreamLength_ge hl)
    rw [judgeAnswer_shaped hs hv (by rw [hv] at hl; simpa [byteAt] using hl)] at h
    split at h
    · cases h
    · next hcheck =>
      split at h
      · cases h
      · next haddress =>
        rw [not_ne_iff] at hcheck haddress
        unfold Poll.judge at h
        split at h
        · cases h
        · next said hsaid =>
          split at h
          · cases h
          · next hello =>
            cases h
            have spelled := (answerOf_eq_some.mp hsaid).1
            subst spelled
            refine ⟨fun hg => by simpa [hg] using hello, head, hsaid, ?_⟩
            have polled : address = byteOf poll.position.val := by
              rw [byteOf, ← haddress, BitVec.ofNat_toNat, BitVec.setWidth_eq]
            have good : bytes = goodBytes (bytes.map (·.value)) := by
              rw [goodBytes, List.map_map]
              exact (List.map_id' bytes).symm.trans (List.map_congr_left fun b hb => by
                obtain ⟨value, stopOk⟩ := b
                simpa using hs _ hb)
            rw [good, hv, ← polled, armFrame, hcheck]
            rfl
  · rintro ⟨hg, head, hans, rfl⟩
    refine judgeAnswer_armFrame ?_ hans hg
    rw [(answerOf_eq_some.mp hans).2.1]
    exact ans.upstreamLength_code

end Judge

/-- Settles O57: the checks one by one on the parts of a frame; and an accepted frame's head is the answer's own but for
the ignored bits. -/
theorem answersAreExactlyTheFramesOfTheTable : Obligations.AnswersAreExactlyTheFramesOfTheTable := by
  refine ⟨?_, fun poll bytes ans => ?_⟩
  · rintro poll bytes vs kind stops shape check address body greeting rfl rfl hstops hshape hcheck haddress hbody hgreeting
    rw [← hiNibble_eq] at hshape hbody hgreeting
    rw [← upstreamLength_eq_some] at hshape
    have behind (h1 : stops) (h2 : shape) := judgeAnswer_behind (poll := poll) rfl (hstops.mp h1) (hshape.mp h2)
    have inBody : body ↔ bodyInRange (bytes.map (·.value)) := hbody
    simp only [ne_eq, ← hcheck, ← haddress, ← inBody] at behind
    refine ⟨fun h => judgeAnswer_framing (mt hstops.mpr h),
      fun ⟨h1, h2⟩ => judgeAnswer_shape (hstops.mp h1) (mt hshape.mpr h2), ?_, ?_, ?_, ?_, ?_⟩
    · rintro ⟨h1, h2, h3⟩
      obtain ⟨said, wrongCheck, -⟩ := behind h1 h2
      exact wrongCheck h3
    · rintro ⟨h1, h2, h3, h4⟩
      obtain ⟨said, -, otherAddress, -⟩ := behind h1 h2
      exact otherAddress h3 h4
    · rintro ⟨h1, h2, h3, h4, h5⟩
      obtain ⟨said, -, -, judged, inRange, -⟩ := behind h1 h2
      rw [judged h3 h4, Option.not_isSome_iff_eq_none.mp (mt inRange.mp h5)]
      rfl
    · rintro ⟨h1, h2, h3, h4, h5, h6⟩
      obtain ⟨said, -, -, judged, inRange, hello⟩ := behind h1 h2
      obtain ⟨ans, rfl⟩ := Option.isSome_iff_exists.mp (inRange.mpr h5)
      rw [hgreeting, Classical.not_imp, ← hello ans rfl] at h6
      simp [judged h3 h4, Poll.judge, h6]
    · rintro ⟨h1, h2, h3, h4, h5, h6⟩
      obtain ⟨said, -, -, judged, inRange, hello⟩ := behind h1 h2
      obtain ⟨ans, rfl⟩ := Option.isSome_iff_exists.mp (inRange.mpr h5)
      rw [hgreeting, ← hello ans rfl] at h6
      exact ⟨ans, by simpa [judged h3 h4, Poll.judge] using h6⟩
  · rw [judgeAnswer_eq_ok, ans.isHello_iff_exists]
    refine and_congr_right fun _ => ?_
    simp only [answerOf_eq_some, true_and, ans.head_iff]
    constructor
    · rintro ⟨head, ⟨spare, hs, rfl⟩, hb⟩
      exact ⟨spare, hs, hb⟩
    · rintro ⟨spare, hs, hb⟩
      exact ⟨_, ⟨spare, hs, rfl⟩, hb⟩

end Sys2Proof.Machine
end

section
/-! Management items that are served, the body of EFFECT-SEND, and GAME-RESET (R55, R135, R139). -/

namespace Sys2Proof.Machine

open Sys2Proof

theorem State.inFlight_of_serving {s : State} {kind : Byte} {body : List Byte} (h : s.serving kind body) :
    s.engine.inFlight = none := by
  obtain ⟨-, idle, -⟩ := h
  exact idle

section Served

variable {s t : State} {kind : Byte} {body : List Byte} {item : List Byte → State → State × Reply} {reply : Reply}

/-- A management item that is served leaves what it makes of the state that has taken it, with its reply made; the item
in flight is nothing to it (R135, R174). -/
theorem serveItem_of_serving (hs : s.serving kind body) (ht : t.engine.inFlight = none)
    (hitem : item body (s.take (.management kind body)) = (t.take (.management kind body), reply)) :
    serveItem kind item body s = t.withHandler (.reply reply) := by
  rw [serveItem, if_pos (State.mayServe_of_serving hs)]
  simp only [hitem]
  rw [State.take_endItem t _ ht]

/-- A management item that changes nothing leaves its reply (R135). -/
theorem serveItem_unchanged (hs : s.serving kind body)
    (hitem : item body (s.take (.management kind body)) = (s.take (.management kind body), reply)) :
    serveItem kind item body s = s.withHandler (.reply reply) :=
  serveItem_of_serving hs (State.inFlight_of_serving hs) hitem

end Served

/-! ### The body of EFFECT-SEND -/

theorem effectAddrField_eq_some {mode value : Byte} {addr : EffectAddr} :
    effectAddrField mode value = some addr ↔ addr.writtenAs mode value := by
  unfold effectAddrField
  split
  · next h => cases addr <;> simp [EffectAddr.writtenAs, h, numberField_eq_some]
  split
  · next h => cases addr <;> simp [EffectAddr.writtenAs, h, numberField_eq_some]
  split
  · next h => cases addr <;> simp [EffectAddr.writtenAs, h]
  · next h1 h2 h3 =>
    refine ⟨nofun, fun h => ?_⟩
    cases addr with
    | tile p => exact absurd h.1 h1
    | zone z => exact absurd h.1 h2
    | all => exact absurd h h3

theorem effectField_eq_some {kind : Byte} {rest : List Byte} {e : Effect} :
    effectField kind rest = some e ↔ kind :: rest = e.bytes := by
  unfold effectField
  split
  · next h => rcases rest with _ | ⟨p, _ | _⟩ <;> cases e <;> simp [Effect.bytes, h, eq_comm]
  split
  · next h => rcases rest with _ | ⟨p, _ | _⟩ <;> cases e <;> simp [Effect.bytes, h, eq_comm]
  split
  · next h => rcases rest with _ | ⟨p, rest⟩ <;> cases e <;> simp [Effect.bytes, h]
  · next h1 h2 h3 =>
    refine ⟨nofun, fun h => ?_⟩
    cases e with
    | light p => exact absurd (List.cons.inj h).1 h1
    | sound c => exact absurd (List.cons.inj h).1 h2
    | dark => exact absurd (List.cons.inj h).1 h3

/-- A body is read as an EFFECT-SEND exactly when it is one (R55 step 1). -/
theorem parseEffectSend_eq_some {body : List Byte} {i : ArmId} {e : EffectEntry} :
    parseEffectSend body = some (i, e) ↔ effectSendOf i e body := by
  unfold effectSendOf
  match body with
  | [] | [_] | [_, _] | [_, _, _] => cases e with | mk addr effect => cases effect <;> simp [parseEffectSend, Effect.bytes]
  | arm :: mode :: value :: kind :: rest =>
    have spelled : (∃ m v, e.addr.writtenAs m v ∧
          arm :: mode :: value :: kind :: rest = armCode i :: m :: v :: e.effect.bytes) ↔
        armField arm = some i ∧ effectAddrField mode value = some e.addr ∧ effectField kind rest = some e.effect := by
      rw [armField_eq_some, effectAddrField_eq_some, effectField_eq_some]
      constructor
      · rintro ⟨m, v, ha, h⟩
        simp only [List.cons.injEq] at h
        obtain ⟨h1, rfl, rfl, h2⟩ := h
        exact ⟨h1, ha, h2⟩
      · rintro ⟨h1, ha, h2⟩
        exact ⟨mode, value, ha, by rw [h1, h2]⟩
    rw [spelled]
    simp only [parseEffectSend]
    split
    · next ha hm he =>
      cases e
      simp [ha, hm, he]
    · next hn => exact ⟨nofun, fun ⟨ha, hm, he⟩ => (hn _ _ _ ha hm he).elim⟩

/-- An EFFECT-SEND is taken up exactly at an arm that drives its pair, and for a tile that is PRESENT (R55 steps 2 and
3). -/
theorem effectSend_passes_iff (s : State) (i : ArmId) (addr : EffectAddr) :
    (!(s.arm i).active || !addressPresent s i addr) = false ↔
      ((s.arm i).phase = .enumerating ∨ (s.arm i).phase = .running) ∧
        ∀ p, addr = .tile p → (s.presence i p).state = .present := by
  rw [← Arm.active_iff]
  cases addr <;> simp [addressPresent]

/-- The item in flight is nothing to the outcome of an EFFECT-SEND (R55). -/
theorem effectSendItem_take (body : List Byte) (s : State) (w : WorkItem) :
    effectSendItem body (s.take w) = ((effectSendItem body s).1.take w, (effectSendItem body s).2) := by
  have present (i : ArmId) (addr : EffectAddr) : addressPresent (s.take w) i addr = addressPresent s i addr := by
    cases i <;> rfl
  have appended (i : ArmId) (e : EffectEntry) : (s.take w).enqueue i e = (s.enqueue i e).take w := by
    rw [State.enqueue_eq, State.enqueue_eq]
    cases i <;> rfl
  unfold effectSendItem
  cases parseEffectSend body with
  | none => rfl
  | some send =>
    simp only [present, appended, State.take_arm]
    split
    · rfl
    split
    · rfl
    · rfl

/-- Settles O40: each outcome of the item, in the order of its tests. -/
theorem effectSendDecidesInOrder : Obligations.EffectSendDecidesInOrder := by
  intro s body hs
  have served {t : State} {reply : Reply} (h : effectSendItem body s = (t, reply))
      (ht : t.engine = s.engine) : exec (.effectSend body) s = .next (t.withHandler (.reply reply)) :=
    congrArg _ (serveItem_of_serving hs (ht ▸ State.inFlight_of_serving hs) (by rw [effectSendItem_take, h]))
  refine ⟨fun hb => ?_, fun i e hb => ?_⟩
  · have unread : parseEffectSend body = none :=
      Option.eq_none_iff_forall_ne_some.mpr fun x h => hb ⟨x.1, x.2, parseEffectSend_eq_some.mp h⟩
    exact served (by simp [effectSendItem, unread, Reply.invalid]) rfl
  have read : parseEffectSend body = some (i, e) := parseEffectSend_eq_some.mpr hb
  refine ⟨fun dropped => served ?_ rfl, fun active present => ?_⟩
  · have stops : (!(s.arm i).active || !addressPresent s i e.addr) = true := by
      rw [← Bool.not_eq_false, effectSend_passes_iff]
      rintro ⟨active, present⟩
      rcases dropped with off | faulted | ⟨p, ha, hp⟩
      · simp [off] at active
      · simp [faulted] at active
      · exact hp (present p ha)
    simp only [effectSendItem, read, stops]
    rfl
  have passes := (effectSend_passes_iff s i e.addr).mpr ⟨active, present⟩
  have appended : s.enqueue i e = s.withArm i { s.arm i with effects := (s.arm i).effects ++ [e] } := by
    rw [State.enqueue, (Arm.active_iff _).mpr active, if_pos rfl]
  refine ⟨fun full => served ?_ rfl, fun room => served ?_ (State.withArm_engine ..)⟩
  · simp [effectSendItem, read, passes, Config.effectCapacity, full]
  · simp [effectSendItem, read, passes, Config.effectCapacity, room, appended, Reply.done]

/-! ### GAME-RESET -/

/-- The state that GAME-RESET leaves, but for its reply (R139). -/
def State.gameReset (s : State) : State := (gameResetItem [] s).1

section GameReset

variable (s : State)

/-- The item in flight is nothing to GAME-RESET. -/
theorem gameResetItem_take (w : WorkItem) : gameResetItem [] (s.take w) = (s.gameReset.take w, Reply.done 0x1B []) := rfl

@[simp] theorem State.gameReset_arm (i : ArmId) : s.gameReset.arm i = (s.arm i).gameReset := by cases i <;> rfl

@[simp] theorem State.gameReset_uplink : s.gameReset.uplink = s.uplink.gameReset := rfl

theorem State.gameReset_quest (q : Fin 16) : s.gameReset.quest q = (s.quest q).gameReset := by
  simp [State.gameReset, gameResetItem, State.quest, Engine.gameReset]

theorem State.gameReset_timer (q : Fin 16) :
    s.gameReset.timers[q] = if (s.quest q).state = .idle then s.timers[q] else ⟨false, 0⟩ := by
  simp [State.gameReset, gameResetItem, State.resetTimers]

theorem State.gameReset_rule (i : Fin 256) : s.gameReset.rule i = (s.rule i).gameReset := by
  simp [State.gameReset, gameResetItem, State.rule, Engine.gameReset]

theorem State.gameReset_score (n : Fin 6) : s.gameReset.engine.scores[n] = Score.zero := by
  simp [State.gameReset, gameResetItem, Engine.gameReset]

end GameReset

theorem Arm.gameReset_line_effect {x : Arm} {frame : List Byte} {held : Bool} (h : x.line = .effect frame held) :
    x.gameReset.line = .effect frame false := by
  simp [Arm.gameReset, h]

theorem Arm.gameReset_line_other {x : Arm} (h : ∀ frame held, x.line ≠ .effect frame held) :
    x.gameReset.line = x.line := by
  cases hl : x.line with
  | effect frame held => exact absurd hl (h frame held)
  | free | lapsed | poll | assign => simp [Arm.gameReset, hl]

/-- Settles O42: the two tables of R139, block by block. -/
theorem gameResetKeepsBoardAndPack : Obligations.GameResetKeepsBoardAndPack := by
  intro s body hs
  refine ⟨fun hb => ?_, ?_⟩
  · exact congrArg _ (serveItem_unchanged hs (by simp [gameResetItem, hb, Reply.invalid]))
  rintro rfl
  have served : exec (.gameReset []) s = .next (s.gameReset.withHandler (.reply (Reply.done 0x1B []))) :=
    congrArg Host.Outcome.next (serveItem_of_serving hs (State.inFlight_of_serving hs) (gameResetItem_take s _))
  refine ⟨s.gameReset, served, fun q idle => ?_, fun q loaded => ?_, fun n => ?_, fun i => ?_, rfl, fun i => ?_,
    fun i frame held line => ?_, fun i line => ?_, rfl, rfl, rfl, rfl, rfl, rfl, rfl, rfl, rfl, ?_, fun held line sent => ?_, fun held line sent => ?_⟩
  · rw [s.gameReset_quest, s.gameReset_timer, Quest.gameReset, if_pos idle, if_pos idle]
    exact ⟨rfl, rfl⟩
  · rw [s.gameReset_quest, s.gameReset_timer, Quest.gameReset, if_neg loaded, if_neg loaded]
    exact ⟨rfl, rfl⟩
  · rw [s.gameReset_score]
    decide
  · rw [s.gameReset_rule, RuleState.gameReset]
  · rw [s.gameReset_arm]
    rfl
  · rw [s.gameReset_arm, Arm.gameReset_line_effect line]
  · rw [s.gameReset_arm, Arm.gameReset_line_other line]
  · cases h : s.uplink.tx <;> simp [Uplink.gameReset, h]
  · simp [Uplink.gameReset, sent]
  · simp [Uplink.gameReset, sent]

end Sys2Proof.Machine
end

section
/-! Event items that fire nothing, and the effect actions (R47, R51 to R54, R79, R119, R128, R129). -/

namespace Sys2Proof.Machine

open Sys2Proof

/-! ### The arbiter's choice -/

section Choice

variable {s : State}

/-- Where event items may start the arbiter takes the first that is offered (R123). -/
theorem State.choose_of_eventsMayStart (h : s.eventsMayStart) : s.choose = s.eventChoice := by
  obtain ⟨high, idle, pending, run, quests, events, effects⟩ := h
  have admits (i : ArmId) : (s.arm i).admits = true := by
    cases ha : (s.arm i).active with
    | false => simp [Arm.admits, ha]
    | true => simpa [Arm.admits, ha, Config.admissionRoom, Config.effectCapacity] using effects i ha
  have admission : s.admission = true := by
    simp only [State.admission, Bool.and_eq_true, decide_eq_true_eq]
    exact ⟨⟨⟨quests, events⟩, admits .a⟩, admits .b⟩
  unfold State.choose
  rw [if_pos (by simp [State.alive, high, idle])]
  split
  · next kind body hh => exact absurd hh (pending kind body)
  · simp [run, admission]

/-- Of two FIFOs that hold records the one that was not served last goes first (R124). -/
theorem State.fifoChoice_eq {i : ArmId} {r : EventRecord} {rest : List EventRecord} (h : (s.arm i).fifo = r :: rest)
    (hi : i ≠ s.engine.lastServed ∨ (s.arm (ArmId.other i)).fifo = []) : s.fifoChoice = some (.fifo i r) := by
  unfold State.fifoChoice
  by_cases last : i = s.engine.lastServed
  · have empty := hi.resolve_left (not_not_intro last)
    simp only [← last, empty, h]
  · have first : ArmId.other s.engine.lastServed = i := by
      cases i <;> cases hl : s.engine.lastServed <;> simp [hl, ArmId.other] at last ⊢
    simp only [first, h]

end Choice

/-! ### An event item that fires nothing -/

/-- With no rule ENABLED the scan passes over every index (R110). -/
theorem scanRules_none_enabled (ev : Event) (n : Nat) {s : State} (h : ∀ i, s.rule i ≠ .enabled) (l : List (Fin 256)) :
    scanRules [] ev n s l = (s, n) := by
  induction l with
  | nil => rfl
  | cons i rest ih => rw [scanRules_pass [] ev n s s i rest rfl (h i), ih]

/-- An event item with no rule ENABLED, in which no other block does anything, comes to its echo decision at once (R110,
R119, R128). -/
theorem runEvent_none_enabled (ev : Event) {s : State} (h : ∀ i, s.rule i ≠ .enabled) {owed : Prop} [Decidable owed]
    (ho : echoOwed s ev 0 = true ↔ owed) :
    runEvent [] ev s = (s.withNotices { s.notices with
      events := s.notices.events ++ if owed then [⟨ev, 0⟩] else [] }).endItem := by
  unfold runEvent
  simp only [scanRules_none_enabled ev 0 h, during_nil, ho]
  split
  · rfl
  · rw [List.append_nil]
    rfl

/-- All that the end of a quest does to the engine and the timers (R70). -/
theorem State.endQuest_eq (s : State) (q : Fin 16) (st : QuestState) (reason : EndReason) :
    s.endQuest q st reason = (s.withEngine { s.engine with
      quests := s.engine.quests.set q { s.quest q with state := st, endReason := reason },
      expiry := s.engine.expiry.filter (· != q) }).withTimer q ⟨false, s.timers[q].remaining⟩ := rfl

/-- Settles O46: the choice is the item's, the scan passes over every rule, and the item's end leaves the engine idle. -/
theorem eventsWithNoEnabledRule : Obligations.EventsWithNoEnabledRule := by
  intro s may
  have chosen := State.choose_of_eventsMayStart may
  obtain ⟨-, idle, -⟩ := may
  refine ⟨fun passed quiet => ⟨fun i r rest expiry inject fifo turn => ?_, fun c expiry inject => ?_,
    fun q rest expiry timeout => ?_⟩, fun q rest expiry single timeout => ?_⟩
  · have choice : s.choose = some (.fifo i r) := by
      rw [chosen, State.eventChoice, expiry, inject]
      exact State.fifoChoice_eq fifo turn
    simp only [exec, execTileEventTake, choice, State.runTileEvent, quiet]
    rw [runEvent_none_enabled (owed := (s.mapRec r.arm r.position).echo = true ∨ s.engine.unclaimedEcho = true) _
      (by simpa [State.rule] using passed) (by simp [echoOwed, State.mapRec]), fifo, idle]
    cases i <;> rfl
  · have choice : s.choose = some (.inject c) := by rw [chosen, State.eventChoice, expiry, inject]
    simp only [exec, execInjectTake, choice, State.runInject, quiet]
    rw [runEvent_none_enabled (owed := s.engine.unclaimedEcho = true) _ (by exact passed) (by simp [echoOwed]), idle]
    rfl
  · have choice : s.choose = some (.expiry q) := by rw [chosen, State.eventChoice, expiry]
    simp only [exec, execExpiryTake, choice, State.runExpiry, timeout, quiet]
    rw [runEvent_none_enabled (owed := s.engine.unclaimedEcho = true) _ (by exact passed) (by simp [echoOwed]), expiry, idle]
    rfl
  · have choice : s.choose = some (.expiry q) := by rw [chosen, State.eventChoice, expiry]
    have others : rest.filter (· != q) = rest :=
      List.filter_eq_self.mpr fun k hk => bne_iff_ne.mpr fun e => single (e ▸ hk)
    simp only [exec, execExpiryTake, choice, State.runExpiry, timeout, State.endQuest_eq, State.spendAsides_engine,
      State.withEngine_engine, expiry, List.tail_cons, others, idle]
    rfl

/-! ### Effect actions -/

/-- An entry joins the queue of an arm in ENUMERATING or RUNNING, and of no other (R51). -/
theorem Arm.joined_eq (x : Arm) (e : EffectEntry) : x.joined e =
    { x with effects := x.effects ++ if x.phase = .enumerating ∨ x.phase = .running then [e] else [] } := by
  unfold Arm.joined
  simp only [← Arm.active_iff]
  split
  · rfl
  · rw [List.append_nil]

/-- An entry for both arms joins each one's queue by itself (R54). -/
theorem State.enqueue_both (s : State) (e : EffectEntry) :
    (s.enqueue .a e).enqueue .b e = (s.withArm .a (s.armA.joined e)).withArm .b (s.armB.joined e) := by
  rw [State.enqueue_eq s, State.enqueue_eq]
  rfl

/-- Settles O52: an entry for a tile goes to its arm's queue or is dropped, one for both arms joins each queue by itself. -/
theorem effectActionsReachTheirArms : Obligations.EffectActionsReachTheirArms := by
  intro s e ev home cond
  refine ⟨fun i p target aimed => ?_, fun other => ?_, fun addr target aimed => ?_⟩
  · have performed : performAction s ev home ⟨.effect e target, cond⟩ = .done (effectToTile s i p e) := by
      rcases aimed with rfl | ⟨r, rfl, rfl, rfl, rfl⟩
      · simp [performAction, performEffect]
      · rfl
    rw [performed, effectToTile]
    refine ⟨fun present active => ?_, fun dropped => ?_⟩
    · rw [if_pos present, State.enqueue_eq, Arm.joined_eq, if_pos active]
    · rcases dropped with away | inactive
      · rw [if_neg away]
      · rw [State.enqueue, (Arm.active_eq_false_iff _).mpr inactive]
        simp
  · cases ev with
    | tile r => exact absurd rfl (other r)
    | timer q | injected code => rfl
  · refine ⟨(s.withArm .a (s.armA.joined ⟨addr, e⟩)).withArm .b (s.armB.joined ⟨addr, e⟩), ?_, rfl, fun i => ?_⟩
    · rw [← State.enqueue_both]
      rcases aimed with ⟨z, rfl, rfl⟩ | ⟨rfl, rfl⟩ <;> rfl
    · cases i with
      | a => exact s.armA.joined_eq _
      | b => exact s.armB.joined_eq _

end Sys2Proof.Machine
end

section
/-! What the engine's own operations are made of, so that a property of the state which they keep piece by piece is kept by
every action, checked read, event item and management item that leaves the arms' pairs and the uplink port alone. -/

namespace Sys2Proof.Machine

open Sys2Proof

/-- A property that the engine keeps: by whatever it writes into its own block, the timers and rule memory, by raising an
alert, by appending a notice or an echo, and by appending an effect entry. -/
structure KeptByEngine (P : State → Prop) : Prop where
  engine : ∀ {s : State}, P s → ∀ x, P (s.withEngine x)
  timers : ∀ {s : State}, P s → ∀ x, P (s.withTimers x)
  memory : ∀ {s : State}, P s → ∀ x, P (s.withMemory x)
  raise : ∀ {s : State}, P s → ∀ al, P (s.raise al)
  notify : ∀ {s : State}, P s → ∀ n, P (s.notify n)
  placeEcho : ∀ {s : State}, P s → ∀ e, P (s.placeEcho e)
  enqueue : ∀ {s : State}, P s → ∀ i e, P (s.enqueue i e)

namespace KeptByEngine

variable {P Q : State → Prop} {s t : State}

theorem and (hP : KeptByEngine P) (hQ : KeptByEngine Q) : KeptByEngine fun s => P s ∧ Q s where
  engine h x := ⟨hP.engine h.1 x, hQ.engine h.2 x⟩
  timers h x := ⟨hP.timers h.1 x, hQ.timers h.2 x⟩
  memory h x := ⟨hP.memory h.1 x, hQ.memory h.2 x⟩
  raise h al := ⟨hP.raise h.1 al, hQ.raise h.2 al⟩
  notify h n := ⟨hP.notify h.1 n, hQ.notify h.2 n⟩
  placeEcho h e := ⟨hP.placeEcho h.1 e, hQ.placeEcho h.2 e⟩
  enqueue h i e := ⟨hP.enqueue h.1 i e, hQ.enqueue h.2 i e⟩

/-- The engine leaves the request handler's phase to the reply of its item (R135, R174). -/
theorem handler (phase : Handler) : KeptByEngine fun s => s.handler = phase where
  engine h _ := h
  timers h _ := h
  memory h _ := h
  raise h _ := h
  notify h _ := h
  placeEcho h _ := h
  enqueue {s} h i e := by rwa [State.enqueue_eq, State.withArm_handler]

/-! ### Quests, timers and rule memory -/

theorem endQuest (hP : KeptByEngine P) (h : P s) (q : Fin 16) (st : QuestState) (reason : EndReason) :
    P (s.endQuest q st reason) :=
  hP.engine (hP.timers (hP.engine h _) _) _

theorem activate (hP : KeptByEngine P) (h : P s) (q : Fin 16) : P (s.activate q) := by
  unfold State.activate
  simp only []
  split
  · exact hP.engine (hP.timers (hP.engine h _) _) _
  · exact hP.engine h _

theorem tickTimer (hP : KeptByEngine P) (h : P s) (q : Fin 16) : P (s.tickTimer q) := by
  unfold State.tickTimer
  simp only []
  split
  · split
    · exact hP.engine (hP.timers h _) _
    · exact hP.timers h _
  · exact h

theorem tickAll (hP : KeptByEngine P) (h : P s) (l : List (Fin 16)) : P (s.tickAll l) := by
  induction l generalizing s with
  | nil => exact h
  | cons q rest ih => exact ih (hP.tickTimer h q)

theorem checkedRead (hP : KeptByEngine P) (h : P s) (found : FoundBy) (i : Fin 256) : P (checkedRead found i s).1 := by
  rcases checkedRead_cases found i s with ⟨-, hr⟩ | ⟨p, -, hr⟩ | ⟨-, hr⟩ <;> rw [hr]
  · exact h
  · exact hP.memory h _
  · exact hP.raise (hP.engine (hP.memory h _) _) _

theorem scrubSlot (hP : KeptByEngine P) (h : P s) : P s.scrubSlot := by
  have ended := hP.memory h s.memory.endVisit
  unfold State.scrubSlot State.scrubVisit
  simp only []
  split
  · refine hP.memory ?_ _
    split
    · exact hP.checkedRead ended .scrub _
    · exact ended
  · exact ended

/-! ### Actions -/

theorem performEffect (hP : KeptByEngine P) (h : P s) (e : Effect) (target : EffectTarget) (ev : Event) :
    P (performEffect s e target ev) := by
  have toTile (i : ArmId) (p : Fin 32) : P (effectToTile s i p e) := by
    unfold effectToTile
    split
    · exact hP.enqueue h _ _
    · exact h
  unfold Machine.performEffect
  split
  · split
    · exact toTile _ _
    · exact h
    · exact h
  · exact toTile _ _
  · exact hP.enqueue (hP.enqueue h _ _) _ _
  · exact hP.enqueue (hP.enqueue h _ _) _ _

theorem performScore (hP : KeptByEngine P) (h : P s) (f : Score → Score → Score) (seat : Option (Fin 6))
    (amount : Fin 10000) : P (performScore s f seat amount) := by
  unfold Machine.performScore
  split
  · exact h
  · exact hP.notify (hP.engine h _) _

theorem performStageAdvance (hP : KeptByEngine P) (h : P s) (q : Fin 16) : P (performStageAdvance s q) := by
  unfold Machine.performStageAdvance
  simp only []
  split
  · exact hP.notify (hP.engine h _) _
  · exact hP.notify (hP.endQuest h _ _ _) _

theorem performQuestStart (hP : KeptByEngine P) (h : P s) {q : Fin 16} (ht : performQuestStart s q = .done t) : P t := by
  unfold Machine.performQuestStart at ht
  repeat' split at ht
  all_goals cases ht
  · exact h
  · exact hP.notify (hP.activate h q) _

/-- Every action that is performed (R132). -/
theorem performAction (hP : KeptByEngine P) (h : P s) {ev : Event} {home : Option (Fin 16)} {a : Action}
    (ht : performAction s ev home a = .done t) : P t := by
  have ofHome {f : Fin 16 → State} (hf : ∀ q, P (f q)) (hd : onHome s home f = .done t) : P t := by
    rcases onHome_cases hd with rfl | ⟨q, rfl⟩
    · exact h
    · exact hf q
  unfold Machine.performAction at ht
  cases hk : a.kind <;> rw [hk] at ht <;> simp only [] at ht
  case count | setIf => exact ofHome (fun _ => hP.engine h _) ht
  case timerStart | timerStop => exact ofHome (fun _ => hP.engine (hP.timers h _) _) ht
  case stageAdvance => exact ofHome (fun q => hP.performStageAdvance h q) ht
  case stageSet => exact ofHome (fun _ => hP.notify (hP.engine h _) _) ht
  case questComplete | questFail => exact ofHome (fun q => hP.notify (hP.endQuest h q _ _) _) ht
  case questStart => exact hP.performQuestStart h ht
  case scoreAdd | scoreSub =>
    cases ht
    exact hP.performScore h _ _ _
  case effect =>
    cases ht
    exact hP.performEffect h _ _ ev
  case turnNext | turnSet =>
    cases ht
    exact hP.notify (hP.engine h _) _
  case signal =>
    cases ht
    exact hP.notify h _
  case ruleEnable | ruleDisable =>
    cases ht
    exact hP.engine h _

/-! ### Event items -/

theorem fireRule (hP : KeptByEngine P) (hbesides : ∀ c s, P s → P (besides c s)) (asides : List Aside) (ev : Event)
    (s : State) (i : Fin 256) (r : RuleRecord) (h : P s) : P (fireRule asides ev i r s) := by
  refine runActions_induct asides P ev i r.home hbesides ?_ (fun _ al ht => hP.raise ht al) r.actions 1 _ ?_
  · intro u a t hu ht
    rcases runAction_done ht with rfl | hp
    · exact hu
    · exact hP.performAction hu hp
  · split
    · exact hP.engine h _
    · exact h

/-- A whole event item, in which the other blocks keep the property as well (R110, R119, R128, R130). -/
theorem runEvent (hP : KeptByEngine P) (hbesides : ∀ c s, P s → P (besides c s)) (h : P s) (asides : List Aside)
    (ev : Event) : P (runEvent asides ev s) := by
  have scanned : P (scanRules asides ev 0 s allRules).1 :=
    scanRules_induct asides P ev hbesides (fun _ i ht => hP.checkedRead ht .scan i) (hP.fireRule hbesides asides ev)
      allRules 0 s h
  have now := during_induct asides P hbesides .echo _ scanned
  unfold Machine.runEvent
  simp only []
  refine hP.engine ?_ _
  split
  · exact hP.placeEcho now _
  · exact now

/-! ### Requests -/

end KeptByEngine

/-- The requests that touch neither an arm nor the uplink port: all but ARM-START, ARM-STOP, DOZE, TILE-WRITE, EFFECT-SEND
and GAME-RESET (R135, R175). -/
inductive EngineItem : (List Byte → State → State × Reply) → Prop where
  | identify : EngineItem identifyItem
  | armStatus : EngineItem armStatusItem
  | tileRead : EngineItem tileReadItem
  | diagCapture : EngineItem diagCaptureItem
  | setup : EngineItem setupItem
  | ruleWrite : EngineItem ruleWriteItem
  | ruleRead : EngineItem ruleReadItem
  | ruleEnable : EngineItem ruleEnableItem
  | ruleDisable : EngineItem ruleDisableItem
  | rawRead : EngineItem rawReadItem
  | rawWrite : EngineItem rawWriteItem
  | questWrite : EngineItem questWriteItem
  | questRead : EngineItem questReadItem
  | questStart : EngineItem questStartItem
  | questAbort : EngineItem questAbortItem
  | scoreSet : EngineItem scoreSetItem
  | scoreRead : EngineItem scoreReadItem
  | turnSet : EngineItem turnSetItem
  | inject : EngineItem injectItem
  | engineHold : EngineItem engineHoldItem
  | engineRun : EngineItem engineRunItem

theorem KeptByEngine.item {P : State → Prop} {s : State} (hP : KeptByEngine P) (h : P s)
    {item : List Byte → State → State × Reply} (hi : EngineItem item) (body : List Byte) : P (item body s).1 := by
  cases hi with
  | identify | scoreRead => exact h
  | armStatus =>
    unfold armStatusItem
    split <;> exact h
  | tileRead =>
    unfold tileReadItem
    split <;> exact h
  | rawRead =>
    unfold rawReadItem
    split <;> exact h
  | questRead =>
    unfold questReadItem
    split <;> exact h
  | diagCapture =>
    unfold diagCaptureItem
    split
    · exact hP.memory h _
    · exact h
  | setup =>
    unfold setupItem
    split
    · exact h
    · exact hP.engine h _
  | ruleWrite =>
    unfold ruleWriteItem
    split
    · exact h
    · exact hP.engine (hP.memory h _) _
  | rawWrite =>
    unfold rawWriteItem
    split
    · exact h
    · exact hP.engine (hP.memory h _) _
  | ruleRead =>
    unfold ruleReadItem
    split
    · exact h
    · next i _ =>
      simp only []
      split <;> exact hP.checkedRead h .read i
  | ruleEnable =>
    unfold ruleEnableItem
    split
    · exact h
    split
    · exact h
    · exact hP.engine h _
  | ruleDisable =>
    unfold ruleDisableItem
    split
    · exact h
    · exact hP.engine h _
  | questWrite =>
    unfold questWriteItem
    split
    · exact h
    split
    · exact h
    · exact hP.timers (hP.engine h _) _
  | questStart =>
    unfold questStartItem
    split
    · exact h
    · next q _ =>
      split
      · exact h
      split
      · exact h
      split
      · exact hP.activate h q
      · exact h
  | questAbort =>
    unfold questAbortItem
    split
    · exact h
    · next q _ =>
      split
      · exact hP.endQuest h q _ _
      · exact h
  | scoreSet =>
    unfold scoreSetItem
    split
    · exact h
    · exact hP.engine h _
  | turnSet =>
    unfold turnSetItem
    split
    · exact h
    split
    · exact hP.engine h _
    · exact h
  | inject =>
    unfold injectItem
    split
    · split
      · exact hP.engine h _
      · exact h
    · exact h
  | engineHold =>
    unfold engineHoldItem
    split
    · exact hP.engine h _
    · exact h
  | engineRun =>
    unfold engineRunItem
    split
    · exact hP.engine h _
    · exact h

end Sys2Proof.Machine
end

section
/-! What a frame in transmission shows still stands: one arm, the transmitter and the handler, and the operations that leave
it so (R56, R57, R161, R163, R174). -/

namespace Sys2Proof.Machine

open Sys2Proof

/-! ### One arm -/

/-- The effect entry that R25 chooses is the head of the queue. -/
theorem Arm.effects_of_nextFrame_effect {x : Arm} {highMark : Nat} {e : EffectEntry}
    (h : x.nextFrame highMark = some (.effect e)) : ∃ rest, x.effects = e :: rest := by
  unfold Arm.nextFrame at h
  split at h
  · cases due : x.assignDue with
    | some p => simp [due] at h
    | none =>
      cases he : x.effects with
      | nil => cases hr : x.pollReady highMark <;> simp [due, he, hr] at h
      | cons head rest =>
        have chosen : head = e := by
          cases hr : x.pollReady highMark with
          | false => simpa [due, he, hr] using h
          | true =>
            cases ha : x.alternation with
            | poll => simpa [due, he, hr, ha] using h
            | effect => simp [due, he, hr, ha] at h
        exact ⟨rest, chosen ▸ rfl⟩
  · cases h

namespace Arm.effectSound

variable {x y : Arm}

/-- No effect frame whose entry stands is on the pair. -/
theorem of_line (h : ∀ frame, x.line ≠ .effect frame true) : x.effectSound := fun frame hl => absurd hl (h frame)

/-- The head of an effect queue stands when entries are appended (R50). -/
theorem appended (h : x.effectSound) (line : y.line = x.line) (effects : x.effects <+: y.effects) : y.effectSound := by
  intro frame hl
  obtain ⟨e, rest, hx, shown⟩ := h frame (line ▸ hl)
  obtain ⟨more, hy⟩ := effects
  exact ⟨e, rest ++ more, by rw [← hy, hx]; rfl, shown⟩

theorem kept (h : x.effectSound) (line : y.line = x.line) (effects : y.effects = x.effects) : y.effectSound :=
  h.appended line (effects ▸ List.prefix_refl _)

theorem freed (h : x.line = .free) : x.effectSound := of_line (by simp [h])

theorem reach (h : x.effectSound) : x.reach.effectSound := by
  cases hn : x.nextStop with
  | none =>
    rw [Arm.reach_of_none hn]
    exact h
  | some p =>
    rw [Arm.reach_of_some hn]
    exact h

theorem leave (h : x.effectSound) : x.leave.effectSound := by
  rw [Arm.leave_eq]
  exact h

theorem countError (h : x.effectSound) (e : LineError) : (x.countError e).effectSound := by
  cases e <;> exact h

theorem dozeOff (h : x.effectSound) : x.dozeOff.effectSound := by
  rw [Arm.dozeOff_eq]
  exact h

theorem joined (h : x.effectSound) (e : EffectEntry) : (x.joined e).effectSound := by
  unfold Arm.joined
  split
  · exact h.appended rfl (List.prefix_append _ _)
  · exact h

/-- A TILE-WRITE leaves an effect frame and its entry, and starts none (R7, R10). -/
theorem rewrite (h : x.effectSound) (p : Fin 32) (old new : TileRec) : (x.rewrite p old new).effectSound := by
  rw [Arm.rewrite_frame]
  cases hl : x.line with
  | effect frame held => exact h.kept (by simp [Arm.recordRewritten, hl, Line.rewritten]) rfl
  | free | lapsed | assign => exact of_line (by simp [Arm.recordRewritten, hl, Line.rewritten])
  | poll poll frame =>
    refine of_line fun f => ?_
    simp only [Arm.recordRewritten, hl, Line.rewritten]
    split <;> simp

/-- GAME-RESET takes the entry of an effect frame under way (R57). -/
theorem gameReset : x.gameReset.effectSound := by
  refine of_line fun f => ?_
  cases hl : x.line <;> simp [Arm.gameReset, hl]

/-- The effect frame that starts is that of the head of the queue (R25, R56). -/
theorem sendEffect {e : EffectEntry} {rest : List EffectEntry} (h : x.effects = e :: rest) :
    (x.sendEffect e).effectSound := by
  intro frame hl
  cases hl
  exact ⟨e, rest, h, rfl⟩

theorem sendPoll : x.sendPoll.effectSound := of_line (by simp [Arm.sendPoll])

theorem sendAssign (p : Fin 32) (zone : Fin 16) : (x.sendAssign p zone).effectSound := of_line (by simp [Arm.sendAssign])

theorem assignSent (p : Fin 32) (again : Bool) : (x.assignSent p again).effectSound := by
  rw [Arm.assignSent_eq]
  exact freed rfl

end Arm.effectSound

/-! ### The transmitter and the request handler -/

namespace State.transmissionSound

variable {s t : State}

/-- The head of a notice queue stands when entries are appended (R159, R160). -/
theorem appended (h : s.transmissionSound) (tx : t.uplink.tx = s.uplink.tx) (handler : t.handler = s.handler)
    (quests : s.notices.quests <+: t.notices.quests) (events : s.notices.events <+: t.notices.events) :
    t.transmissionSound := by
  obtain ⟨reply, sending, quest, event⟩ := h
  refine ⟨by rwa [tx, handler], by rwa [tx, handler], fun line hl => ?_, fun line hl => ?_⟩
  · obtain ⟨n, rest, hq, shown⟩ := quest line (tx ▸ hl)
    obtain ⟨more, hm⟩ := quests
    exact ⟨n, rest ++ more, by rw [← hm, hq]; rfl, shown⟩
  · obtain ⟨e, rest, he, shown⟩ := event line (tx ▸ hl)
    obtain ⟨more, hm⟩ := events
    exact ⟨e, rest ++ more, by rw [← hm, he]; rfl, shown⟩

theorem kept (h : s.transmissionSound) (tx : t.uplink.tx = s.uplink.tx) (handler : t.handler = s.handler)
    (quests : t.notices.quests = s.notices.quests) (events : t.notices.events = s.notices.events) : t.transmissionSound :=
  h.appended tx handler (quests ▸ List.prefix_refl _) (events ▸ List.prefix_refl _)

/-- While no reply is on UPTX, the handler sends none (R174). -/
theorem not_sending (h : s.transmissionSound) (tx : ∀ line, s.uplink.tx ≠ some ⟨.reply, line⟩) (r : Reply) :
    s.handler ≠ .sending r := by
  obtain ⟨-, sending, -, -⟩ := h
  exact fun hr => tx _ (sending r hr)

/-- A handler that sends no reply may take up and answer requests (R174). -/
theorem withHandler (h : s.transmissionSound) (hs : ∀ r, s.handler ≠ .sending r) {x : Handler} (hx : ∀ r, x ≠ .sending r) :
    (s.withHandler x).transmissionSound := by
  obtain ⟨reply, -, quest, event⟩ := h
  refine ⟨fun line hl => ?_, fun r hr => absurd hr (hx r), quest, event⟩
  obtain ⟨r, hr, -⟩ := reply line hl
  exact absurd hr (hs r)

/-- With nothing on UPTX there is nothing to compare, as long as no reply is being sent. -/
theorem free (tx : s.uplink.tx = none) (hs : ∀ r, s.handler ≠ .sending r) : s.transmissionSound := by
  refine ⟨?_, fun r hr => absurd hr (hs r), ?_, ?_⟩ <;> simp [tx]

/-- The frame that begins is the reply, or of the head of its queue (R161, R162). -/
theorem startFrame (h : s.transmissionSound) (tx : s.uplink.tx = none) : s.startFrame.transmissionSound := by
  have hs := h.not_sending (by simp [tx])
  rcases s.startFrame_cases with ⟨r, -, hb⟩ |
    ⟨-, ⟨e, rest, -, hb⟩ | ⟨-, n, rest, hq, hb⟩ | ⟨-, -, e, rest, he, hb⟩ | ⟨-, -, -, hb⟩⟩ <;> rw [hb]
  · refine ⟨fun line hl => ?_, fun r' hr => ?_, nofun, nofun⟩
    · cases hl
      exact ⟨r, rfl, rfl⟩
    · cases hr
      rfl
  · exact ⟨nofun, fun r hr => absurd hr (hs r), nofun, nofun⟩
  · refine ⟨nofun, fun r hr => absurd hr (hs r), fun line hl => ?_, nofun⟩
    cases hl
    exact ⟨n, rest, hq, rfl⟩
  · refine ⟨nofun, fun r hr => absurd hr (hs r), nofun, fun line hl => ?_⟩
    cases hl
    exact ⟨e, rest, he, rfl⟩
  · exact h

/-- The frame that ends takes its entry or its reply with it (R161, R163, R174). -/
theorem frameSent (h : s.transmissionSound) {x : Tx} (tx : s.uplink.tx = some x) :
    ((s.withUplink { s.uplink with tx := none }).frameSent x.source).transmissionSound := by
  obtain ⟨source, line⟩ := x
  cases source with
  | reply => exact free rfl nofun
  | alert => exact free rfl (h.not_sending (by simp [tx]))
  | quest held =>
    have hs := h.not_sending (by simp [tx])
    cases held <;> exact free rfl hs
  | event held =>
    have hs := h.not_sending (by simp [tx])
    cases held <;> exact free rfl hs

/-- GAME-RESET empties both queues and takes the entry of the frame on UPTX (R139, R163). -/
theorem gameReset (h : s.transmissionSound) : s.gameReset.transmissionSound := by
  cases ht : s.uplink.tx with
  | none => exact free (by simp [Uplink.gameReset, ht]) (h.not_sending (by simp [ht]))
  | some x =>
    obtain ⟨source, line⟩ := x
    cases source with
    | reply =>
      have stays : s.gameReset.uplink.tx = s.uplink.tx := by simp [Uplink.gameReset, ht]
      obtain ⟨reply, sending, -, -⟩ := h
      exact ⟨by rwa [stays], by rwa [stays], by rw [stays, ht]; nofun, by rw [stays, ht]; nofun⟩
    | alert | quest held | event held =>
      have hs := h.not_sending (by simp [ht])
      refine ⟨?_, fun r hr => absurd hr (hs r), ?_, ?_⟩ <;> simp [Uplink.gameReset, ht]

end State.transmissionSound

end Sys2Proof.Machine
end

section
/-! What a frame in transmission shows still stands: the operations of the uplink port, the rotation and the answers, and
the requests (R22, R39, R56, R57, R161 to R175). -/

namespace Sys2Proof.Machine

open Sys2Proof

@[simp] theorem Uplink.afterRise_tx (u : Uplink) : u.afterRise.tx = u.tx := by
  rcases u.afterRise_cases with ⟨-, -, h⟩ | ⟨-, h⟩ <;> rw [h]

@[simp] theorem Uplink.afterFall_tx (u : Uplink) : u.afterFall.tx = u.tx := by
  rcases u.afterFall_cases with ⟨-, -, h⟩ | ⟨-, h⟩ <;> rw [h]

@[simp] theorem State.startFrame_arm (s : State) (i : ArmId) : s.startFrame.arm i = s.arm i := by
  rcases s.startFrame_cases with ⟨r, -, h⟩ | ⟨-, ⟨e, rest, -, h⟩ | ⟨-, n, rest, -, h⟩ | ⟨-, -, e, rest, -, h⟩ | ⟨-, -, -, h⟩⟩ <;>
    rw [h] <;> simp [State.begin_eq]

@[simp] theorem State.frameSent_arm (s : State) (source : TxSource) (i : ArmId) : (s.frameSent source).arm i = s.arm i := by
  cases source with
  | reply => exact s.withHandler_arm _ i
  | alert => rfl
  | quest held | event held =>
    cases held with
    | false => rfl
    | true => exact s.withNotices_arm _ i

/-- Each frame in transmission is that of the entry or reply it was built from, which still stands (R56, R161, R174). -/
structure State.ShowsHeads (s : State) : Prop where
  transmission : s.transmissionSound
  effects : ∀ i, (s.arm i).effectSound

namespace State.ShowsHeads

variable {s t : State} {i : ArmId}

/-! ### One block at a time -/

/-- The frames in transmission do not depend on anything but the arms, the uplink port, the handler and the notices. -/
theorem kept (h : s.ShowsHeads) (arm : ∀ i, t.arm i = s.arm i) (tx : t.uplink.tx = s.uplink.tx)
    (handler : t.handler = s.handler) (quests : t.notices.quests = s.notices.quests)
    (events : t.notices.events = s.notices.events) : t.ShowsHeads :=
  ⟨h.transmission.kept tx handler quests events, fun i => arm i ▸ h.effects i⟩

theorem withArm (h : s.ShowsHeads) {x : Arm} (hx : x.effectSound) : (s.withArm i x).ShowsHeads := by
  refine ⟨h.transmission.kept ?_ ?_ ?_ ?_, fun j => ?_⟩
  iterate 4 simp
  by_cases hj : j = i
  · subst hj
    rwa [State.withArm_arm_self]
  · rw [State.withArm_arm_ne s i j x hj]
    exact h.effects j

theorem raise (h : s.ShowsHeads) (al : Alert) : (s.raise al).ShowsHeads := h.kept (s.raise_arm al) rfl rfl rfl rfl

theorem raiseOpt (h : s.ShowsHeads) (al : Option Alert) : (s.raiseOpt al).ShowsHeads := by
  cases al with
  | none => exact h
  | some al => exact h.raise al

theorem withUplink (h : s.ShowsHeads) {u : Uplink} (tx : u.tx = s.uplink.tx) : (s.withUplink u).ShowsHeads :=
  h.kept (s.withUplink_arm u) tx rfl rfl rfl

theorem withHandler (h : s.ShowsHeads) (hs : ∀ r, s.handler ≠ .sending r) {x : Handler} (hx : ∀ r, x ≠ .sending r) :
    (s.withHandler x).ShowsHeads :=
  ⟨h.transmission.withHandler hs hx, fun i => by rw [State.withHandler_arm]; exact h.effects i⟩

/-- The engine starts no frame and takes none of the entries away that one shows. -/
theorem keptByEngine : KeptByEngine State.ShowsHeads where
  engine h x := h.kept (State.withEngine_arm _ x) rfl rfl rfl rfl
  timers h x := h.kept (State.withTimers_arm _ x) rfl rfl rfl rfl
  memory h x := h.kept (State.withMemory_arm _ x) rfl rfl rfl rfl
  raise h al := h.raise al
  notify h n := ⟨h.transmission.appended rfl rfl (List.prefix_append _ _) (List.prefix_refl _),
    fun i => by rw [State.notify_arm]; exact h.effects i⟩
  placeEcho h e := ⟨h.transmission.appended rfl rfl (List.prefix_refl _) (List.prefix_append _ _),
    fun i => by rw [State.placeEcho_arm]; exact h.effects i⟩
  enqueue h i e := by
    rw [State.enqueue_eq]
    exact h.withArm ((h.effects i).joined e)

/-! ### The uplink port (R165 to R173) -/

theorem garble (h : s.ShowsHeads) (next : RxState) : (s.garble next).ShowsHeads :=
  (h.withUplink (by rw [Uplink.afterFall_tx])).raise .uplinkGarbled

theorem beginFrame (h : s.ShowsHeads) : (s.withUplink s.uplink.beginFrame).ShowsHeads := h.withUplink rfl

theorem endFrame (h : s.ShowsHeads) : s.endFrame.ShowsHeads := by
  rcases s.endFrame_cases with ⟨-, he⟩ | ⟨-, he⟩ <;> rw [he]
  · exact h.withUplink rfl
  · exact h.garble .idle

theorem storeByte (h : s.ShowsHeads) (b : Byte) : (s.storeByte b).ShowsHeads := by
  rcases s.storeByte_cases b with ⟨-, hb⟩ | ⟨-, u, hu, hb⟩
  · rw [hb]
    exact h.garble .discard
  · have stored : (s.withUplink u).ShowsHeads := h.withUplink (by rw [hu, Uplink.afterRise_tx])
    rcases hb with ⟨-, hb⟩ | ⟨-, ⟨-, hb⟩ | ⟨-, hb⟩⟩ <;> rw [hb]
    · exact stored.garble .discard
    · exact stored.endFrame
    · exact stored

theorem contentByte (h : s.ShowsHeads) (b : Byte) : (s.contentByte b).ShowsHeads := by
  unfold State.contentByte
  split
  · split
    · exact h.garble .discard
    · exact h.withUplink rfl
  · split
    · split
      · exact h.storeByte _
      · exact h.garble .discard
    · exact h.storeByte b

theorem frameByte (h : s.ShowsHeads) (b : Byte) (stopOk : Bool) : (s.frameByte b stopOk).ShowsHeads := by
  unfold State.frameByte
  split
  · split
    · exact h.beginFrame
    · exact (h.withUplink (u := { s.uplink with rx := .discard }) rfl).raise _
  · split
    · exact h.garble .discard
    · split
      · exact (h.garble .frame).beginFrame
      · exact h.contentByte b
  · split
    · exact h.beginFrame
    · exact h

theorem startFrame (h : s.ShowsHeads) (free : s.transmitterFree = true) : s.startFrame.ShowsHeads := by
  have tx : s.uplink.tx = none := by
    simp only [State.transmitterFree, Bool.and_eq_true, Option.isNone_iff_eq_none] at free
    obtain ⟨⟨-, tx⟩, -⟩ := free
    exact tx
  exact ⟨h.transmission.startFrame tx, fun i => by rw [State.startFrame_arm]; exact h.effects i⟩

theorem hostGo (h : s.ShowsHeads) : s.hostGo.ShowsHeads := by
  have heard := h.withUplink (u := { s.uplink with hostHeld := false }) rfl
  unfold State.hostGo
  simp only []
  split
  · next free => exact heard.startFrame (Bool.and_eq_true_iff.mp free).2
  · exact heard

theorem receive (h : s.ShowsHeads) (b : Byte) (stopOk : Bool) : (s.receive b stopOk).ShowsHeads := by
  unfold State.receive
  split
  · split
    · exact h.withUplink rfl
    · split
      · exact h.hostGo
      · exact h.frameByte b stopOk
  · exact h

theorem frameSent (h : s.ShowsHeads) {x : Tx} (tx : s.uplink.tx = some x) :
    ((s.withUplink { s.uplink with tx := none }).frameSent x.source).ShowsHeads :=
  ⟨h.transmission.frameSent tx, fun i => by rw [State.frameSent_arm, State.withUplink_arm]; exact h.effects i⟩

/-! ### The rotation (R27, R28, R39) -/

theorem faultArm (h : s.ShowsHeads) (i : ArmId) : (s.faultArm i).ShowsHeads := (h.withArm (.freed rfl)).raise _

theorem movePass (h : s.ShowsHeads) (i : ArmId) : (s.movePass i).ShowsHeads := by
  have arm := h.effects i
  rcases s.movePass_cases i with hm | ⟨-, hm⟩ | ⟨-, -, hm⟩ | ⟨-, -, hm⟩ | ⟨-, -, -, hm⟩ | ⟨-, -, -, hm⟩ <;> rw [hm]
  · exact h
  · exact h.withArm arm.reach
  · exact h.withArm (arm.kept rfl rfl)
  · exact h.withArm (arm.kept rfl rfl)
  · exact h.faultArm i
  · exact h.withArm (arm.kept rfl rfl)

theorem movePasses (h : s.ShowsHeads) (i : ArmId) (hold : Bool) (m : Nat) : (s.movePasses i hold m).ShowsHeads :=
  State.movePasses_induct State.ShowsHeads i (fun _ h _ _ => h.movePass i) hold m s h

theorem bring (h : s.ShowsHeads) (i : ArmId) : (s.bring i).ShowsHeads := h.movePasses i _ 6

theorem settle (h : s.ShowsHeads) (i : ArmId) : (s.settle i).ShowsHeads := h.movePasses i _ 6

theorem received (h : s.ShowsHeads) (i : ArmId) (x : Arm) : (s.received i x).ShowsHeads :=
  bring (h.withArm (x := { x with line := .free }) (.freed rfl)) i

theorem waitOver (h : s.ShowsHeads) (i : ArmId) (f : StartMark → StartMark) : (s.waitOver i f).ShowsHeads := by
  have noted : (s.withArm i { s.arm i with startMark := (s.arm i).startMark.map f }).ShowsHeads :=
    h.withArm ((h.effects i).kept rfl rfl)
  unfold State.waitOver
  simp only []
  split
  · split
    · exact noted.bring i
    · exact noted
  · exact h

/-! ### Answers and misses (R11 to R16, R22, R29 to R32) -/

theorem acceptEvent (h : s.ShowsHeads) (i : ArmId) (p : Fin 32) (e : TileEvent) (toggle : Bool) :
    (s.acceptEvent i p e toggle).ShowsHeads := by
  have arm := h.effects i
  rcases s.acceptEvent_cases i p e toggle rfl rfl with ⟨-, ha⟩ | ⟨-, -, ha⟩ | ⟨-, -, ha⟩ <;> rw [ha]
  · exact h.withArm (arm.kept rfl rfl)
  · exact h.withArm (arm.kept rfl rfl)
  · refine ((h.withArm (Arm.effectSound.dozeOff ?_)).withArm (h.effects (ArmId.other i)).dozeOff).raise .wake
    exact arm.kept rfl rfl

theorem recorded (h : s.ShowsHeads) (i : ArmId) (p : Fin 32) (r : PresenceRec) :
    (s.withArm i ((s.arm i).withPresence p r)).ShowsHeads := h.withArm ((h.effects i).kept rfl rfl)

theorem answerPresent (h : s.ShowsHeads) (i : ArmId) (p : Fin 32) (ans : Answer) :
    (s.answerPresent i p ans).1.ShowsHeads := by
  cases ans with
  | event e toggle more =>
    simp only [State.answerPresent]
    split
    · exact h.recorded i p _
    · exact (h.recorded i p _).acceptEvent i p e toggle
  | idle | hello kind => exact h.recorded i p _

theorem answerValid (h : s.ShowsHeads) (i : ArmId) (p : Fin 32) (ans : Answer) : (s.answerValid i p ans).1.ShowsHeads := by
  unfold State.answerValid
  simp only []
  split
  · split
    · exact h
    · exact (h.recorded i p _).raiseOpt _
  · split
    · exact h.answerPresent i p ans
    · exact ((h.recorded i p _).raise _).answerPresent i p ans
    · exact h.recorded i p _
    · exact h
    · exact h

theorem answerMissed (h : s.ShowsHeads) (i : ArmId) (p : Fin 32) : (s.answerMissed i p).1.ShowsHeads :=
  (h.recorded i p _).raiseOpt _

theorem afterOutcome {r : State × Bool} (h : r.1.ShowsHeads) (i : ArmId) : (State.afterOutcome i r).ShowsHeads := by
  unfold State.afterOutcome
  refine bring ?_ i
  split
  · exact h
  · exact h.withArm (h.effects i).leave

theorem endPoll (h : s.ShowsHeads) (i : ArmId) (poll : Poll) (valid : Bool) : (s.endPoll i poll valid).ShowsHeads :=
  h.withArm (.freed rfl)

theorem pollAnswered (h : s.ShowsHeads) (i : ArmId) (poll : Poll) (bytes : List LineByte) :
    (s.pollAnswered i poll bytes).ShowsHeads := by
  unfold State.pollAnswered
  split
  · exact ((h.endPoll i poll true).answerValid i _ _).afterOutcome i
  · have ended := h.endPoll i poll false
    exact ((ended.withArm ((ended.effects i).countError _)).answerMissed i _).afterOutcome i

end State.ShowsHeads

end Sys2Proof.Machine
end

section
/-! Every command leaves the frames in transmission showing what still stands (R56, R57, R161, R163, R174). -/

namespace Sys2Proof.Machine

open Sys2Proof

/-! ### The requests -/

/-- An item under which the frames in transmission still show what stands, and which leaves the handler's phase to the
reply. -/
def keepsShown (item : List Byte → State → State × Reply) : Prop :=
  ∀ (body : List Byte) (s : State), s.ShowsHeads → (item body s).1.ShowsHeads ∧ (item body s).1.handler = s.handler

theorem EngineItem.keepsShown {item : List Byte → State → State × Reply} (hi : EngineItem item) : keepsShown item :=
  fun body s h => (State.ShowsHeads.keptByEngine.and (.handler s.handler)).item ⟨h, rfl⟩ hi body

@[simp] theorem State.bring_handler (s : State) (i : ArmId) : (s.bring i).handler = s.handler := by
  rw [State.bring_frame]
  cases i <;> rfl

theorem keepsShown_tileWrite : keepsShown tileWriteItem := by
  intro body s h
  have stored (i : ArmId) (p : Fin 32) (new : TileRec) :
      (s.tileStored i p new).ShowsHeads ∧ (s.tileStored i p new).handler = s.handler := by
    have mapped : (s.withTileMap (s.tileMap.set (tileIndex i p) new)).ShowsHeads :=
      h.kept (State.withTileMap_arm _ _) rfl rfl rfl rfl
    have rewritten := mapped.withArm (i := i) ((h.effects i).rewrite p (s.mapRec i p) new)
    exact ⟨rewritten.kept (State.withTileWrites_arm _ _) rfl rfl rfl rfl, by simp [State.tileStored]⟩
  cases hb : parseTileWrite body with
  | none => simpa only [tileWriteItem, hb] using ⟨h, trivial⟩
  | some written =>
    obtain ⟨k, new⟩ := written
    obtain ⟨shown, handler⟩ := stored (indexArm k) (indexPosition k) new
    rw [tileWriteItem_eq s (indexArm k) (indexPosition k) new (by rw [hb, tileIndex_index])]
    simp only []
    split
    · exact ⟨shown, handler⟩
    · exact ⟨shown.bring _, by rw [State.bring_handler, handler]⟩

theorem keepsShown_effectSend : keepsShown effectSendItem := by
  intro body s h
  unfold effectSendItem
  split
  · exact ⟨h, rfl⟩
  · next i e _ =>
    split
    · exact ⟨h, rfl⟩
    split
    · exact ⟨h, rfl⟩
    · exact (State.ShowsHeads.keptByEngine.and (.handler s.handler)).enqueue ⟨h, rfl⟩ i e

theorem keepsShown_gameReset : keepsShown gameResetItem := by
  intro body s h
  by_cases hb : body = []
  · subst hb
    refine ⟨⟨h.transmission.gameReset, fun i => ?_⟩, rfl⟩
    exact (s.gameReset_arm i).symm ▸ Arm.effectSound.gameReset
  · rw [gameResetItem, if_neg hb]
    exact ⟨h, rfl⟩

theorem keepsShown_armStart : keepsShown armStartItem := by
  intro body s h
  unfold armStartItem
  split
  · exact ⟨h, rfl⟩
  split
  · exact ⟨h, rfl⟩
  · exact ⟨h.withArm (.freed rfl), State.withArm_handler ..⟩

theorem keepsShown_armStop : keepsShown armStopItem := by
  intro body s h
  unfold armStopItem
  split
  · exact ⟨h, rfl⟩
  · exact ⟨h.withArm (.freed rfl), State.withArm_handler ..⟩

theorem keepsShown_doze : keepsShown dozeItem := by
  intro body s h
  unfold dozeItem
  split
  · exact ⟨h, rfl⟩
  · refine ⟨(h.withArm (i := .a) ?_).withArm (i := .b) ?_, rfl⟩
    · exact (h.effects .a).kept rfl rfl
    · exact (h.effects .b).kept rfl rfl
  · exact ⟨(h.withArm (i := .a) (h.effects .a).dozeOff).withArm (i := .b) (h.effects .b).dozeOff, rfl⟩

theorem keepsShown_directItem {kind : Byte} {item : List Byte → State → State × Reply} (hd : directItem kind = some item) :
    keepsShown item := by
  unfold directItem at hd
  split at hd <;> cases hd
  · exact EngineItem.identify.keepsShown
  · exact EngineItem.armStatus.keepsShown
  · exact EngineItem.tileRead.keepsShown
  · exact keepsShown_armStart
  · exact keepsShown_armStop
  · exact keepsShown_doze
  · exact EngineItem.diagCapture.keepsShown

section Commands

variable {s : State}

namespace State.ShowsHeads

/-- An item that is served leaves its reply at a handler that was sending none (R174). -/
theorem answered (h : s.ShowsHeads) (hs : ∀ r, s.handler ≠ .sending r) {item : List Byte → State → State × Reply}
    (hi : keepsShown item) (body : List Byte) :
    ((item body s).1.withHandler (.reply (item body s).2)).ShowsHeads := by
  obtain ⟨shown, handler⟩ := hi body s h
  exact shown.withHandler (handler ▸ hs) nofun

theorem not_sending_of_handlerFree (hf : s.handlerFree = true) (r : Reply) : s.handler ≠ .sending r := by
  simp only [State.handlerFree, Bool.and_eq_true, beq_iff_eq] at hf
  obtain ⟨⟨-, idle⟩, -⟩ := hf
  simp [idle]

theorem not_sending_of_mayServe {kind : Byte} {body : List Byte} (hm : s.mayServe kind body = true) (r : Reply) :
    s.handler ≠ .sending r := by
  intro hr
  rw [s.mayServe_other kind body (by simp [hr]) (by simp [hr])] at hm
  cases hm

theorem serveDirect (h : s.ShowsHeads) {item : List Byte → State → State × Reply} (hi : keepsShown item)
    (body : List Byte) : (serveDirect item body s).ShowsHeads := by
  rcases serveDirect_cases item body s with ⟨hf, hs⟩ | ⟨-, hs⟩ <;> rw [hs]
  · exact h.answered (not_sending_of_handlerFree hf) hi body
  · exact h

theorem serveItem (h : s.ShowsHeads) {item : List Byte → State → State × Reply} (hi : keepsShown item) (kind : Byte)
    (body : List Byte) : (serveItem kind item body s).ShowsHeads := by
  rcases serveItem_cases kind item body s with ⟨hm, hs⟩ | ⟨-, hs⟩ <;> rw [hs]
  · have taken : (s.take (.management kind body)).ShowsHeads := h.kept (s.take_arm _) rfl rfl rfl rfl
    have quiet : ∀ r, (s.take (.management kind body)).handler ≠ .sending r :=
      not_sending_of_mayServe (s := s) hm
    have done := taken.answered quiet hi body
    exact done.kept (fun i => by simp [State.endItem]) rfl rfl rfl rfl
  · exact h

theorem decodeRequest (h : s.ShowsHeads) (hs : ∀ r, s.handler ≠ .sending r) (kind : Byte) (body : List Byte) :
    (s.decodeRequest kind body).ShowsHeads := by
  unfold State.decodeRequest
  split
  · next item hd => exact h.answered hs (keepsShown_directItem hd) body
  · split
    · exact h.withHandler hs nofun
    · exact h.withHandler hs nofun

/-! ### All commands but the takes of event items -/

/-- Every reset leaves no frame in transmission (R140). -/
theorem of_powerOn {t : State} (arm : ∀ i, t.arm i = Arm.powerOn) (tx : t.uplink.tx = none) (handler : t.handler = .idle) :
    t.ShowsHeads :=
  ⟨.free tx (by simp [handler]), fun i => .freed (by rw [arm]; rfl)⟩

theorem exec_of_not_take (h : s.ShowsHeads) (c : Instr) (hc : ¬ takesEvent c) : ∃ t, exec c s = .next t ∧ t.ShowsHeads := by
  have served {item : List Byte → State → State × Reply} (hi : keepsShown item) (kind : Byte) (body : List Byte) :=
    h.serveItem hi kind body
  have brought := fun i => h.bring i
  simp only [takesEvent, not_or] at hc
  obtain ⟨tile, expiry, injected⟩ := hc
  cases c with
  | tileEventTake => exact absurd rfl tile
  | expiryTake => exact absurd rfl expiry
  | injectTake => exact absurd rfl injected
  | powerOn | resetLine => exact ⟨_, rfl, of_powerOn (fun i => by cases i <;> rfl) rfl rfl⟩
  | rstnRelease =>
    refine ⟨_, rfl, ?_⟩
    split
    · exact of_powerOn (fun i => by cases i <;> rfl) rfl rfl
    · exact h
  | uplinkByteReceived b ok => exact ⟨_, rfl, h.receive b ok⟩
  | holdReceived ok => exact ⟨_, rfl, h.receive 0xF1 ok⟩
  | goReceived ok => exact ⟨_, rfl, h.receive 0xF2 ok⟩
  | partialFrameTimeout =>
    refine ⟨_, rfl, ?_⟩
    split
    · exact h.garble .idle
    · exact h
  | discardQuiet =>
    refine ⟨_, rfl, ?_⟩
    split
    · exact h.withUplink rfl
    · exact h
  | flowByteSend =>
    refine ⟨_, rfl, ?_⟩
    split
    · exact h.withUplink rfl
    · exact h
  | transmitFrameStart =>
    refine ⟨_, rfl, ?_⟩
    split
    · next free => exact h.startFrame free
    · exact h
  | transmitFrameEnd =>
    refine ⟨_, rfl, ?_⟩
    split
    · next tx => exact h.frameSent tx
    · exact h
  | requestTake =>
    refine ⟨_, rfl, ?_⟩
    split
    · next idle _ =>
      refine State.ShowsHeads.decodeRequest (h.withUplink ?_) (by simp [idle]) _ _
      rw [Uplink.afterFall_tx]
    · exact h
  | identify body => exact ⟨_, rfl, h.serveDirect EngineItem.identify.keepsShown body⟩
  | armStatus body => exact ⟨_, rfl, h.serveDirect EngineItem.armStatus.keepsShown body⟩
  | tileRead body => exact ⟨_, rfl, h.serveDirect EngineItem.tileRead.keepsShown body⟩
  | armStart body => exact ⟨_, rfl, h.serveDirect keepsShown_armStart body⟩
  | armStop body => exact ⟨_, rfl, h.serveDirect keepsShown_armStop body⟩
  | doze body => exact ⟨_, rfl, h.serveDirect keepsShown_doze body⟩
  | diagCapture body => exact ⟨_, rfl, h.serveDirect EngineItem.diagCapture.keepsShown body⟩
  | setup body => exact ⟨_, rfl, served EngineItem.setup.keepsShown 0x08 body⟩
  | tileWrite body => exact ⟨_, rfl, served keepsShown_tileWrite 0x09 body⟩
  | ruleWrite body => exact ⟨_, rfl, served EngineItem.ruleWrite.keepsShown 0x0A body⟩
  | ruleRead body => exact ⟨_, rfl, served EngineItem.ruleRead.keepsShown 0x0B body⟩
  | ruleEnable body => exact ⟨_, rfl, served EngineItem.ruleEnable.keepsShown 0x0C body⟩
  | ruleDisable body => exact ⟨_, rfl, served EngineItem.ruleDisable.keepsShown 0x0D body⟩
  | rawRead body => exact ⟨_, rfl, served EngineItem.rawRead.keepsShown 0x0E body⟩
  | rawWrite body => exact ⟨_, rfl, served EngineItem.rawWrite.keepsShown 0x0F body⟩
  | questWrite body => exact ⟨_, rfl, served EngineItem.questWrite.keepsShown 0x10 body⟩
  | questRead body => exact ⟨_, rfl, served EngineItem.questRead.keepsShown 0x11 body⟩
  | questStart body => exact ⟨_, rfl, served EngineItem.questStart.keepsShown 0x12 body⟩
  | questAbort body => exact ⟨_, rfl, served EngineItem.questAbort.keepsShown 0x13 body⟩
  | scoreSet body => exact ⟨_, rfl, served EngineItem.scoreSet.keepsShown 0x14 body⟩
  | scoreRead body => exact ⟨_, rfl, served EngineItem.scoreRead.keepsShown 0x15 body⟩
  | turnSet body => exact ⟨_, rfl, served EngineItem.turnSet.keepsShown 0x16 body⟩
  | effectSend body => exact ⟨_, rfl, served keepsShown_effectSend 0x17 body⟩
  | inject body => exact ⟨_, rfl, served EngineItem.inject.keepsShown 0x18 body⟩
  | engineHold body => exact ⟨_, rfl, served EngineItem.engineHold.keepsShown 0x19 body⟩
  | engineRun body => exact ⟨_, rfl, served EngineItem.engineRun.keepsShown 0x1A body⟩
  | gameReset body => exact ⟨_, rfl, served keepsShown_gameReset 0x1B body⟩
  | questTick =>
    refine ⟨_, rfl, ?_⟩
    split
    · exact keptByEngine.tickAll h _
    · exact h
  | questTimerExpiry q =>
    refine ⟨_, rfl, ?_⟩
    split
    · exact keptByEngine.tickTimer h q
    · exact h
  | scrubSlot =>
    refine ⟨_, rfl, ?_⟩
    split
    · exact keptByEngine.scrubSlot h
    · exact h
  | scrubWriteBack =>
    refine ⟨_, rfl, ?_⟩
    split
    · exact keptByEngine.memory h _
    · exact h
  | bitUpset entry position => exact ⟨_, rfl, keptByEngine.memory h _⟩
  | pollSend i =>
    refine ⟨_, rfl, ?_⟩
    split
    · simp only []
      split
      · exact (brought i).withArm .sendPoll
      · exact brought i
    · exact h
  | effectFrameSend i =>
    refine ⟨_, rfl, ?_⟩
    split
    · simp only []
      split
      · next e chosen =>
        obtain ⟨rest, head⟩ := Arm.effects_of_nextFrame_effect chosen
        exact (brought i).withArm (.sendEffect head)
      · exact brought i
    · exact h
  | assignSend i =>
    refine ⟨_, rfl, ?_⟩
    split
    · simp only []
      split
      · exact (brought i).withArm (.sendAssign _ _)
      · exact brought i
    · exact h
  | effectFrameEnd i =>
    refine ⟨_, rfl, ?_⟩
    split
    · exact (h.withArm (.freed rfl)).settle i
    · exact h
  | assignEnd i =>
    refine ⟨_, rfl, ?_⟩
    split
    · exact (h.withArm (.assignSent _ _)).settle i
    · exact h
  | pollAnswer i bytes =>
    refine ⟨_, rfl, ?_⟩
    split
    · exact h.pollAnswered i _ bytes
    · exact h.received i _
    · exact h
  | replyWindowClose i =>
    refine ⟨_, rfl, ?_⟩
    split
    · exact ((h.endPoll i _ false).answerMissed i _).afterOutcome i
    · exact h.received i _
    · exact h
  | strayFrame i frame =>
    refine ⟨_, rfl, ?_⟩
    split
    · exact h.received i _
    · exact h
  | dozeWaitEnd i => exact ⟨_, rfl, h.waitOver i _⟩
  | emptyRotationWaitEnd i => exact ⟨_, rfl, h.waitOver i _⟩

/-! ### Event items -/

theorem besides (c : Instr) (s : State) (h : s.ShowsHeads) : (besides c s).ShowsHeads := by
  rcases besides_eq c s with hb | ⟨hc, hb⟩
  · rwa [hb]
  · obtain ⟨t, ht, shown⟩ := h.exec_of_not_take c hc
    rwa [Host.Outcome.next.inj (hb.symm.trans ht)]

theorem runEvent (h : s.ShowsHeads) (asides : List Aside) (ev : Event) : (runEvent asides ev s).ShowsHeads :=
  keptByEngine.runEvent besides h asides ev

theorem spendAsides (h : s.ShowsHeads) : s.spendAsides.ShowsHeads := h.kept s.spendAsides_arm rfl rfl rfl rfl

theorem runTileEvent (h : s.ShowsHeads) (i : ArmId) (r : EventRecord) : (s.runTileEvent i r).ShowsHeads := by
  have taken : (s.withArm i { s.arm i with fifo := (s.arm i).fifo.tail }).ShowsHeads :=
    h.withArm ((h.effects i).kept rfl rfl)
  exact (keptByEngine.engine taken _).spendAsides.runEvent _ _

theorem runExpiry (h : s.ShowsHeads) (q : Fin 16) : (s.runExpiry q).ShowsHeads := by
  have taken := (keptByEngine.engine h
    { s.engine with expiry := s.engine.expiry.tail, inFlight := some (.expiry q) }).spendAsides
  unfold State.runExpiry
  simp only []
  split
  · exact keptByEngine.engine (keptByEngine.notify (keptByEngine.endQuest taken q _ _) _) _
  · exact taken.runEvent _ _

theorem runInject (h : s.ShowsHeads) (code : Byte) : (s.runInject code).ShowsHeads :=
  (keptByEngine.engine h _).spendAsides.runEvent _ _

theorem exec_take (h : s.ShowsHeads) {c : Instr} (hc : takesEvent c) : ∃ t, exec c s = .next t ∧ t.ShowsHeads := by
  rcases hc with rfl | rfl | rfl
  all_goals
    refine ⟨_, rfl, ?_⟩
    split
  · exact h.runTileEvent _ _
  · exact h
  · exact h.runExpiry _
  · exact h
  · exact h.runInject _
  · exact h

end State.ShowsHeads

end Commands

/-- Settles O11: an idle step changes nothing; a command is a take of an event item, in which the other blocks run their
own commands, or one of those, and each block's operations leave the entries that a frame shows where they stand. -/
theorem transmissionsShowTheHeadOfTheirQueue : Obligations.TransmissionsShowTheHeadOfTheirQueue := by
  intro s t transmission effects h
  have start : s.ShowsHeads := ⟨transmission, effects⟩
  suffices t.ShowsHeads from ⟨this.transmission, this.effects⟩
  unfold step at h
  split at h
  · cases h
    exact start
  · next c rest _ =>
    have dequeued : (s.withPending rest).ShowsHeads := start.kept (s.withPending_arm rest) rfl rfl rfl rfl
    have runs : ∃ u, exec c (s.withPending rest) = .next u ∧ u.ShowsHeads := by
      by_cases hc : takesEvent c
      · exact dequeued.exec_take hc
      · exact dequeued.exec_of_not_take c hc
    obtain ⟨u, hu, shown⟩ := runs
    rwa [Host.Outcome.next.inj (h.symm.trans hu)]

end Sys2Proof.Machine
end

section
/-! What the commands of the uplink port and the requests leave alone: the quests, their timers and expiry list, and what rule
memory holds. -/

namespace Sys2Proof.Machine

open Sys2Proof

/-! ### The uplink port -/

/-- Nothing but the uplink port, the notice queues and the request handler's phase has changed from `s` to `t`. -/
def State.WithinPort (s t : State) : Prop := ∃ u n p, t = ((s.withUplink u).withNotices n).withHandler p

namespace State.WithinPort

variable {s t : State}

theorem refl (s : State) : s.WithinPort s := ⟨s.uplink, s.notices, s.handler, rfl⟩

theorem withUplink (h : s.WithinPort t) (u : Uplink) : s.WithinPort (t.withUplink u) := by
  obtain ⟨_, n, p, rfl⟩ := h
  exact ⟨u, n, p, rfl⟩

theorem withNotices (h : s.WithinPort t) (n : Notices) : s.WithinPort (t.withNotices n) := by
  obtain ⟨u, _, p, rfl⟩ := h
  exact ⟨u, n, p, rfl⟩

theorem withHandler (h : s.WithinPort t) (p : Handler) : s.WithinPort (t.withHandler p) := by
  obtain ⟨u, n, _, rfl⟩ := h
  exact ⟨u, n, p, rfl⟩

theorem raise (h : s.WithinPort t) (al : Alert) : s.WithinPort (t.raise al) := h.withNotices _

theorem garble (h : s.WithinPort t) (next : RxState) : s.WithinPort (t.garble next) := (h.withUplink _).raise _

theorem endFrame (h : s.WithinPort t) : s.WithinPort t.endFrame := by
  rcases t.endFrame_cases with ⟨-, he⟩ | ⟨-, he⟩ <;> rw [he]
  · exact h.withUplink _
  · exact h.garble .idle

theorem storeByte (h : s.WithinPort t) (b : Byte) : s.WithinPort (t.storeByte b) := by
  rcases t.storeByte_cases b with ⟨-, hb⟩ | ⟨-, u, -, ⟨-, hb⟩ | ⟨-, ⟨-, hb⟩ | ⟨-, hb⟩⟩⟩ <;> rw [hb]
  · exact h.garble .discard
  · exact (h.withUplink u).garble .discard
  · exact (h.withUplink u).endFrame
  · exact h.withUplink u

theorem contentByte (h : s.WithinPort t) (b : Byte) : s.WithinPort (t.contentByte b) := by
  unfold State.contentByte
  split
  · split
    · exact h.garble .discard
    · exact h.withUplink _
  · split
    · split
      · exact h.storeByte _
      · exact h.garble .discard
    · exact h.storeByte b

theorem frameByte (h : s.WithinPort t) (b : Byte) (stopOk : Bool) : s.WithinPort (t.frameByte b stopOk) := by
  unfold State.frameByte
  split
  · split
    · exact h.withUplink _
    · exact (h.withUplink _).raise _
  · split
    · exact h.garble .discard
    · split
      · exact (h.garble .frame).withUplink _
      · exact h.contentByte b
  · split
    · exact h.withUplink _
    · exact h

theorem startFrame (h : s.WithinPort t) : s.WithinPort t.startFrame := by
  rcases t.startFrame_cases with ⟨r, -, hf⟩ |
    ⟨-, ⟨e, rest, -, hf⟩ | ⟨-, n, rest, -, hf⟩ | ⟨-, -, e, rest, -, hf⟩ | ⟨-, -, -, hf⟩⟩ <;> rw [hf]
  · exact (h.withHandler _).withUplink _
  · exact (h.withNotices _).withUplink _
  · exact h.withUplink _
  · exact h.withUplink _
  · exact h

theorem receive (h : s.WithinPort t) (b : Byte) (stopOk : Bool) : s.WithinPort (t.receive b stopOk) := by
  unfold State.receive State.hostHold State.hostGo
  split
  · split
    · exact h.withUplink _
    · split
      · simp only []
        split
        · exact (h.withUplink _).startFrame
        · exact h.withUplink _
      · exact h.frameByte b stopOk
  · exact h

theorem frameSent (h : s.WithinPort t) (source : TxSource) : s.WithinPort (t.frameSent source) := by
  cases source with
  | reply => exact h.withHandler _
  | alert => exact h
  | quest held | event held =>
    cases held with
    | false => exact h
    | true => exact h.withNotices _

end State.WithinPort

/-! ### The records -/

/-- The quests, their expiry list and timers, and the entries of rule memory with the write-back that is pending. -/
def State.records (s : State) :
    Vector Quest 16 × List (Fin 16) × Vector Timer 16 × Vector (BitVec 233) 256 × Option WriteBack :=
  (s.engine.quests, s.engine.expiry, s.timers, s.memory.entries, s.memory.writeBack)

section Records

variable {s t : State} {i : ArmId}

theorem State.WithinPort.records (h : s.WithinPort t) : t.records = s.records := by
  obtain ⟨u, n, p, rfl⟩ := h
  rfl

theorem State.WithinArm.records (h : s.WithinArm i t) : t.records = s.records := by
  obtain ⟨x, q, rfl⟩ := h
  cases i <;> rfl

theorem State.WithinPair.records (h : s.WithinPair i t) : t.records = s.records := by
  obtain ⟨-, engine, timers, memory, -⟩ := h.rest
  simp only [State.records, engine, timers, memory]

theorem State.records_withArm (s : State) (i : ArmId) (x : Arm) : (s.withArm i x).records = s.records :=
  ((State.WithinArm.refl s i).withArm x).records

theorem State.records_enqueue (s : State) (i : ArmId) (e : EffectEntry) : (s.enqueue i e).records = s.records := by
  rw [State.enqueue_eq, State.records_withArm]

/-- An item that leaves the records as they are. -/
def keepsRecords (item : List Byte → State → State × Reply) : Prop :=
  ∀ (body : List Byte) (s : State), (item body s).1.records = s.records

theorem keepsRecords_directItem {kind : Byte} {item : List Byte → State → State × Reply} (hd : directItem kind = some item) :
    keepsRecords item := by
  intro body s
  unfold directItem at hd
  split at hd <;> cases hd
  · rfl
  · unfold armStatusItem
    split <;> rfl
  · unfold tileReadItem
    split <;> rfl
  · unfold armStartItem
    split
    · rfl
    split
    · rfl
    · exact s.records_withArm _ _
  · unfold armStopItem
    split
    · rfl
    · exact s.records_withArm _ _
  · unfold dozeItem
    split <;> rfl
  · unfold diagCaptureItem
    split <;> rfl

theorem keepsRecords_setup : keepsRecords setupItem := by
  intro body s
  unfold setupItem
  split <;> rfl

/-- A TILE-WRITE is the map's and its arm's matter (R3 to R7). -/
theorem keepsRecords_tileWrite : keepsRecords tileWriteItem := by
  intro body s
  unfold tileWriteItem State.tileWritten
  split
  · rfl
  · next k r _ =>
    have stored (x : Arm) : ((s.withTileMap (s.tileMap.set k r)).withArm (indexArm k) x).records = s.records :=
      State.records_withArm _ _ x
    have moved (t : State) : (t.bring (indexArm k)).records = t.records :=
      (State.WithinArm.refl t (indexArm k)).bring.records
    simp only []
    split
    · exact stored _
    · exact (moved _).trans (stored _)

theorem keepsRecords_ruleEnable : keepsRecords ruleEnableItem := by
  intro body s
  unfold ruleEnableItem
  split
  · rfl
  split <;> rfl

theorem keepsRecords_ruleDisable : keepsRecords ruleDisableItem := by
  intro body s
  unfold ruleDisableItem
  split <;> rfl

theorem keepsRecords_rawRead : keepsRecords rawReadItem := by
  intro body s
  unfold rawReadItem
  split <;> rfl

theorem keepsRecords_questRead : keepsRecords questReadItem := by
  intro body s
  unfold questReadItem
  split <;> rfl

theorem keepsRecords_scoreSet : keepsRecords scoreSetItem := by
  intro body s
  unfold scoreSetItem
  split <;> rfl

theorem keepsRecords_scoreRead : keepsRecords scoreReadItem := fun _ _ => rfl

theorem keepsRecords_turnSet : keepsRecords turnSetItem := by
  intro body s
  unfold turnSetItem
  split
  · rfl
  split <;> rfl

theorem keepsRecords_effectSend : keepsRecords effectSendItem := by
  intro body s
  unfold effectSendItem
  split
  · rfl
  split
  · rfl
  split
  · rfl
  · exact s.records_enqueue _ _

theorem keepsRecords_inject : keepsRecords injectItem := by
  intro body s
  unfold injectItem
  split
  · split <;> rfl
  · rfl

theorem keepsRecords_engineHold : keepsRecords engineHoldItem := by
  intro body s
  unfold engineHoldItem
  split <;> rfl

theorem keepsRecords_engineRun : keepsRecords engineRunItem := by
  intro body s
  unfold engineRunItem
  split <;> rfl

end Records

end Sys2Proof.Machine
end

section
/-! What changes the quests and the entries of rule memory: a property of them that the few operations on them keep is kept by
every command but the writes of a record and the resets. -/

namespace Sys2Proof.Machine

open Sys2Proof

/-! ### Steps of other blocks inside an event item -/

section Asides

variable (asides : List Aside) (P : State → Prop)

/-- A property that the steps of other blocks in this list keep is kept by what happens at a moment (R130). -/
theorem during_of_asides (hbesides : ∀ x ∈ asides, ∀ s, P s → P (besides x.command s)) (m : Moment) {s : State} (h : P s) :
    P (during asides m s) :=
  List.foldlRecOn _ _ h fun t ht x hx => hbesides x (List.mem_of_mem_filter hx) t ht

theorem runActions_of_asides (hbesides : ∀ x ∈ asides, ∀ s, P s → P (besides x.command s)) (ev : Event) (rule : Fin 256)
    (home : Option (Fin 16)) (hact : ∀ s a t, P s → runAction s ev home a = .done t → P t)
    (hraise : ∀ s al, P s → P (s.raise al)) (acts : List Action) (n : Nat) {s : State} (h : P s) :
    P (runActions asides ev rule home n s acts) := by
  induction acts generalizing n s with
  | nil => exact h
  | cons a rest ih =>
    have now := during_of_asides asides P hbesides (.action rule n) h
    rw [runActions]
    cases ha : runAction (during asides (.action rule n) s) ev home a with
    | done t => exact ih (n + 1) (hact _ a t now ha)
    | fault code => exact hraise _ _ now

theorem scanRules_of_asides (hbesides : ∀ x ∈ asides, ∀ s, P s → P (besides x.command s)) (ev : Event)
    (hrule : ∀ s i, P s → P (scanRule asides ev i s).1) (rules : List (Fin 256)) (n : Nat) {s : State} (h : P s) :
    P (scanRules asides ev n s rules).1 := by
  induction rules generalizing n s with
  | nil => exact h
  | cons i rest ih =>
    obtain ⟨now, hnow⟩ : ∃ now, now = during asides (.fetch i) s := ⟨_, rfl⟩
    have kept : P now := hnow ▸ during_of_asides asides P hbesides (.fetch i) h
    by_cases enabled : now.rule i = .enabled
    · have here := hrule now i kept
      cases fired : (scanRule asides ev i now).2.isSome with
      | false =>
        rw [scanRules_skip asides ev n s now i rest hnow enabled fired]
        exact ih n here
      | true =>
        rw [scanRules_fire asides ev n s now i rest hnow enabled fired]
        split
        · exact ih (n + 1) here
        · exact here
    · rw [scanRules_pass asides ev n s now i rest hnow enabled]
      exact ih n kept

end Asides

/-! ### The operations -/

/-- An upset of one stored bit (R141). -/
def State.upset (s : State) (i : Fin 256) (p : Fin 233) : State :=
  s.withMemory { s.memory with entries := s.memory.entries.set i (flipBit s.memory.entries[i] p) }

/-- A property of the records that every operation on a quest, its timer and its expiry, every checked read, the end of a
scrubber visit, GAME-RESET and the upsets of these entries keep. -/
structure KeptByRecordOps (upsets : Fin 256 → Prop) (P : State → Prop) : Prop where
  records : ∀ {s t}, P s → t.records = s.records → P t
  count : ∀ {s q}, P s → (s.quest q).state = .active → ∀ op c o, P (performCount s q op c o)
  setIf : ∀ {s q}, P s → (s.quest q).state = .active → ∀ c condition, P (performSetIf s q c condition)
  stage : ∀ {s q}, P s → (s.quest q).state = .active → ∀ st : Fin 16, st.val ≤ (s.quest q).definition.finalStage.val →
    P (s.withQuest q { s.quest q with stage := st })
  endQuest : ∀ {s q}, P s → (s.quest q).state = .active → ∀ st reason,
    (st, reason) ∈ [(QuestState.complete, EndReason.completed), (.failed, .failedByRule), (.failed, .aborted)] →
    P (s.endQuest q st reason)
  expire : ∀ {s q rest}, P s → s.engine.expiry = q :: rest →
    P ((s.withEngine { s.engine with expiry := rest }).endQuest q .failed .timedOut)
  takeExpiry : ∀ {s q rest}, P s → s.engine.expiry = q :: rest → P (s.withEngine { s.engine with expiry := rest })
  activate : ∀ {s q}, P s → (s.quest q).state = .loaded → P (s.activate q)
  startTimer : ∀ {s q}, P s → (s.quest q).state = .active → ∀ ticks, P (s.startTimer q ticks)
  stopTimer : ∀ {s q}, P s → (s.quest q).state = .active → P (s.stopTimer q)
  tickTimer : ∀ {s}, P s → ∀ q, P (s.tickTimer q)
  gameReset : ∀ {s : State}, P s → P s.gameReset
  checkedRead : ∀ {s}, P s → ∀ found i, P (checkedRead found i s).1
  endVisit : ∀ {s}, P s → P (s.withMemory s.memory.endVisit)
  upset : ∀ {s i}, P s → upsets i → ∀ p, P (s.upset i p)

/-- The commands that write a record whole, and the resets. -/
def loadsRecords (c : Instr) : Prop :=
  (∃ body, c = .ruleWrite body ∨ c = .rawWrite body ∨ c = .questWrite body) ∨ c = .powerOn ∨ c = .resetLine ∨ c = .rstnRelease

/-- An action that is reached is performed, on an ACTIVE home quest when it is a home-quest action, or leaves the state
(R65, R131). -/
theorem runAction_performs {s t : State} {ev : Event} {home : Option (Fin 16)} {a : Action}
    (h : runAction s ev home a = .done t) :
    t = s ∨ (performAction s ev home a = .done t ∧
      (a.isHome = true → ∃ q, home = some q ∧ (s.quest q).state = .active)) := by
  cases ha : a.isHome with
  | false => exact .inr ⟨(runAction_free s ev home a ha).symm.trans h, nofun⟩
  | true =>
    cases home with
    | none =>
      rw [runAction, if_pos ha] at h
      cases h
      exact .inl rfl
    | some q =>
      rcases runAction_home s ev q a ha with ⟨-, hr⟩ | ⟨-, -, hr⟩ | ⟨active, hr⟩ <;> rw [hr] at h
      · cases h
      · cases h
        exact .inl rfl
      · split at h
        · exact .inr ⟨h, fun _ => ⟨q, rfl, active⟩⟩
        · cases h
          exact .inl rfl

namespace KeptByRecordOps

variable {upsets : Fin 256 → Prop} {P : State → Prop} {s t : State}

/-! ### Actions -/

theorem performStageAdvance (hP : KeptByRecordOps upsets P) (h : P s) {q : Fin 16} (active : (s.quest q).state = .active) :
    P (performStageAdvance s q) := by
  unfold Machine.performStageAdvance
  simp only []
  split
  · next below => exact hP.records (hP.stage h active _ (by exact below)) rfl
  · exact hP.records (hP.endQuest h active .complete .completed (by simp)) rfl

theorem performStageSet (hP : KeptByRecordOps upsets P) (h : P s) {q : Fin 16} (active : (s.quest q).state = .active)
    (st : Fin 16) : P (performStageSet s q st) := by
  have within : (if st.val ≤ (s.quest q).definition.finalStage.val then st else (s.quest q).definition.finalStage).val ≤
      (s.quest q).definition.finalStage.val := by
    split
    · assumption
    · exact Nat.le_refl _
  exact hP.records (hP.stage h active _ within) rfl

theorem performQuestStart (hP : KeptByRecordOps upsets P) (h : P s) {q : Fin 16} (ht : performQuestStart s q = .done t) :
    P t := by
  unfold Machine.performQuestStart at ht
  split at ht
  case h_5 loaded =>
    split at ht
    · cases ht
      exact hP.records (hP.activate h loaded) rfl
    · cases ht
  all_goals cases ht
  exact h

theorem records_performEffect (s : State) (e : Effect) (target : EffectTarget) (ev : Event) :
    (performEffect s e target ev).records = s.records := by
  unfold Machine.performEffect effectToTile
  repeat' split
  all_goals simp [State.records_enqueue]

theorem records_performScore (s : State) (f : Score → Score → Score) (seat : Option (Fin 6)) (amount : Fin 10000) :
    (performScore s f seat amount).records = s.records := by
  unfold Machine.performScore
  split <;> rfl

/-- Every action that is performed on the home quest that R131 asks for (R132). -/
theorem performAction (hP : KeptByRecordOps upsets P) (h : P s) {ev : Event} {home : Option (Fin 16)} {a : Action}
    (hhome : a.isHome = true → ∃ q, home = some q ∧ (s.quest q).state = .active)
    (ht : performAction s ev home a = .done t) : P t := by
  have onActive {f : Fin 16 → State} (needs : a.kind.needsHome = true)
      (hf : ∀ q, (s.quest q).state = .active → P (f q)) (hd : onHome s home f = .done t) : P t := by
    obtain ⟨q, rfl, active⟩ := hhome (by simp [Action.isHome, needs])
    cases hd
    exact hf q active
  unfold Machine.performAction at ht
  cases hk : a.kind <;> rw [hk] at ht onActive <;> simp only [] at ht
  case count op c o => exact onActive rfl (fun q active => hP.count h active op c o) ht
  case setIf c => exact onActive rfl (fun q active => hP.setIf h active c a.condition) ht
  case stageAdvance => exact onActive rfl (fun q active => hP.performStageAdvance h active) ht
  case stageSet st => exact onActive rfl (fun q active => hP.performStageSet h active st) ht
  case questComplete =>
    refine onActive rfl (fun q active => hP.records (hP.endQuest h active .complete .completed (by simp)) ?_) ht
    rfl
  case questFail =>
    refine onActive rfl (fun q active => hP.records (hP.endQuest h active .failed .failedByRule (by simp)) ?_) ht
    rfl
  case timerStart ticks => exact onActive rfl (fun q active => hP.startTimer h active ticks) ht
  case timerStop => exact onActive rfl (fun q active => hP.stopTimer h active) ht
  case questStart => exact hP.performQuestStart h ht
  case scoreAdd | scoreSub =>
    cases ht
    exact hP.records h (records_performScore s _ _ _)
  case effect =>
    cases ht
    exact hP.records h (records_performEffect s _ _ ev)
  case turnNext | turnSet | signal | ruleEnable | ruleDisable =>
    cases ht
    exact hP.records h rfl

/-! ### Requests -/

theorem serveDirect (hP : KeptByRecordOps upsets P) (h : P s) {item : List Byte → State → State × Reply}
    (hitem : keepsRecords item) (body : List Byte) : P (serveDirect item body s) := by
  rcases serveDirect_cases item body s with ⟨-, hs⟩ | ⟨-, hs⟩ <;> rw [hs]
  · exact hP.records h (hitem body s)
  · exact h

theorem serveItem (hP : KeptByRecordOps upsets P) (h : P s) {item : List Byte → State → State × Reply} {body : List Byte}
    (hitem : ∀ {t}, P t → P (item body t).1) (kind : Byte) : P (serveItem kind item body s) := by
  rcases serveItem_cases kind item body s with ⟨-, hs⟩ | ⟨-, hs⟩ <;> rw [hs]
  · have taken : P (s.take (.management kind body)) := hP.records h rfl
    exact hP.records (hitem taken) rfl
  · exact h

theorem serveItem_kept (hP : KeptByRecordOps upsets P) (h : P s) {item : List Byte → State → State × Reply}
    (hitem : keepsRecords item) (kind : Byte) (body : List Byte) : P (Machine.serveItem kind item body s) :=
  hP.serveItem h (fun ht => hP.records ht (hitem body _)) kind

theorem decodeRequest (hP : KeptByRecordOps upsets P) (h : P s) (kind : Byte) (body : List Byte) :
    P (s.decodeRequest kind body) := by
  unfold State.decodeRequest
  split
  · next item hd => exact hP.records h (keepsRecords_directItem hd body s)
  · split <;> exact hP.records h rfl

theorem ruleReadItem (hP : KeptByRecordOps upsets P) (h : P s) (body : List Byte) : P (ruleReadItem body s).1 := by
  unfold Machine.ruleReadItem
  split
  · exact h
  · next i _ =>
    simp only []
    split <;> exact hP.checkedRead h .read i

theorem questStartItem (hP : KeptByRecordOps upsets P) (h : P s) (body : List Byte) : P (questStartItem body s).1 := by
  unfold Machine.questStartItem
  split
  · exact h
  split
  · exact h
  split
  · exact h
  · next loaded =>
    split
    · exact hP.activate h (not_not.mp loaded)
    · exact h

theorem questAbortItem (hP : KeptByRecordOps upsets P) (h : P s) (body : List Byte) : P (questAbortItem body s).1 := by
  unfold Machine.questAbortItem
  split
  · exact h
  split
  · next active => exact hP.endQuest h active .failed .aborted (by simp)
  · exact h

theorem gameResetItem (hP : KeptByRecordOps upsets P) (h : P s) (body : List Byte) : P (gameResetItem body s).1 := by
  by_cases hb : body = []
  · subst hb
    exact hP.gameReset h
  · rw [Machine.gameResetItem, if_neg hb]
    exact h

/-! ### Ticks, the scrubber and the other commands -/

theorem tickAll (hP : KeptByRecordOps upsets P) (h : P s) (l : List (Fin 16)) : P (s.tickAll l) := by
  induction l generalizing s with
  | nil => exact h
  | cons q rest ih => exact ih (hP.tickTimer h q)

theorem scrubSlot (hP : KeptByRecordOps upsets P) (h : P s) : P s.scrubSlot := by
  have ended := hP.endVisit h
  unfold State.scrubSlot State.scrubVisit
  simp only []
  split
  · refine hP.records (s := if _ then _ else _) ?_ rfl
    split
    · exact hP.checkedRead ended .scrub _
    · exact ended
  · exact ended

/-- Every command but the takes of event items, the writes of a record and the resets. -/
theorem exec_of_not_take (hP : KeptByRecordOps upsets P) (h : P s) {c : Instr} (loads : ¬ loadsRecords c)
    (takes : ¬ takesEvent c) (hu : ∀ i p, c = .bitUpset i p → upsets i) : ∃ t, exec c s = .next t ∧ P t := by
  have within {t : State} (ht : s.WithinPort t) : P t := hP.records h ht.records
  have same : s.WithinPort s := .refl s
  have direct {kind : Byte} {item : List Byte → State → State × Reply} (hd : directItem kind = some item) (body : List Byte) :
      P (Machine.serveDirect item body s) := hP.serveDirect h (keepsRecords_directItem hd) body
  have served {item : List Byte → State → State × Reply} (hi : keepsRecords item) (kind : Byte) (body : List Byte) :
      P (Machine.serveItem kind item body s) := hP.serveItem_kept h hi kind body
  have pair {c : Instr} {i : ArmId} (hc : Instr.armOf c = some i) : ∃ t, exec c s = .next t ∧ P t := by
    obtain ⟨t, ht, only⟩ := exec_withinPair hc s
    exact ⟨t, ht, hP.records h only.records⟩
  simp only [loadsRecords, not_or, not_exists] at loads
  simp only [takesEvent, not_or] at takes
  obtain ⟨writes, powerOn, resetLine, rstnRelease⟩ := loads
  obtain ⟨tile, expiry, injected⟩ := takes
  cases c with
  | powerOn => exact absurd rfl powerOn
  | resetLine => exact absurd rfl resetLine
  | rstnRelease => exact absurd rfl rstnRelease
  | ruleWrite body => exact absurd rfl (writes body).1
  | rawWrite body => exact absurd rfl (writes body).2.1
  | questWrite body => exact absurd rfl (writes body).2.2
  | tileEventTake => exact absurd rfl tile
  | expiryTake => exact absurd rfl expiry
  | injectTake => exact absurd rfl injected
  | uplinkByteReceived b ok => exact ⟨_, rfl, within (same.receive b ok)⟩
  | holdReceived ok => exact ⟨_, rfl, within (same.receive 0xF1 ok)⟩
  | goReceived ok => exact ⟨_, rfl, within (same.receive 0xF2 ok)⟩
  | partialFrameTimeout =>
    refine ⟨_, rfl, within ?_⟩
    split
    · exact same.garble .idle
    · exact same
  | discardQuiet =>
    refine ⟨_, rfl, within ?_⟩
    split
    · exact same.withUplink _
    · exact same
  | flowByteSend =>
    refine ⟨_, rfl, within ?_⟩
    split
    · exact same.withUplink _
    · exact same
  | transmitFrameStart =>
    refine ⟨_, rfl, within ?_⟩
    split
    · exact same.startFrame
    · exact same
  | transmitFrameEnd =>
    refine ⟨_, rfl, within ?_⟩
    split
    · exact (same.withUplink _).frameSent _
    · exact same
  | requestTake =>
    refine ⟨_, rfl, ?_⟩
    split
    · exact hP.decodeRequest (within (same.withUplink _)) _ _
    · exact h
  | identify body => exact ⟨_, rfl, direct (kind := 0x01) rfl body⟩
  | armStatus body => exact ⟨_, rfl, direct (kind := 0x02) rfl body⟩
  | tileRead body => exact ⟨_, rfl, direct (kind := 0x03) rfl body⟩
  | armStart body => exact ⟨_, rfl, direct (kind := 0x04) rfl body⟩
  | armStop body => exact ⟨_, rfl, direct (kind := 0x05) rfl body⟩
  | doze body => exact ⟨_, rfl, direct (kind := 0x06) rfl body⟩
  | diagCapture body => exact ⟨_, rfl, direct (kind := 0x07) rfl body⟩
  | setup body => exact ⟨_, rfl, served keepsRecords_setup 0x08 body⟩
  | tileWrite body => exact ⟨_, rfl, served keepsRecords_tileWrite 0x09 body⟩
  | ruleRead body => exact ⟨_, rfl, hP.serveItem h (fun ht => hP.ruleReadItem ht body) 0x0B⟩
  | ruleEnable body => exact ⟨_, rfl, served keepsRecords_ruleEnable 0x0C body⟩
  | ruleDisable body => exact ⟨_, rfl, served keepsRecords_ruleDisable 0x0D body⟩
  | rawRead body => exact ⟨_, rfl, served keepsRecords_rawRead 0x0E body⟩
  | questRead body => exact ⟨_, rfl, served keepsRecords_questRead 0x11 body⟩
  | questStart body => exact ⟨_, rfl, hP.serveItem h (fun ht => hP.questStartItem ht body) 0x12⟩
  | questAbort body => exact ⟨_, rfl, hP.serveItem h (fun ht => hP.questAbortItem ht body) 0x13⟩
  | scoreSet body => exact ⟨_, rfl, served keepsRecords_scoreSet 0x14 body⟩
  | scoreRead body => exact ⟨_, rfl, served keepsRecords_scoreRead 0x15 body⟩
  | turnSet body => exact ⟨_, rfl, served keepsRecords_turnSet 0x16 body⟩
  | effectSend body => exact ⟨_, rfl, served keepsRecords_effectSend 0x17 body⟩
  | inject body => exact ⟨_, rfl, served keepsRecords_inject 0x18 body⟩
  | engineHold body => exact ⟨_, rfl, served keepsRecords_engineHold 0x19 body⟩
  | engineRun body => exact ⟨_, rfl, served keepsRecords_engineRun 0x1A body⟩
  | gameReset body => exact ⟨_, rfl, hP.serveItem h (fun ht => hP.gameResetItem ht body) 0x1B⟩
  | questTick =>
    refine ⟨_, rfl, ?_⟩
    split
    · exact hP.tickAll h _
    · exact h
  | questTimerExpiry q =>
    refine ⟨_, rfl, ?_⟩
    split
    · exact hP.tickTimer h q
    · exact h
  | scrubSlot =>
    refine ⟨_, rfl, ?_⟩
    split
    · exact hP.scrubSlot h
    · exact h
  | scrubWriteBack =>
    refine ⟨_, rfl, ?_⟩
    split
    · exact hP.endVisit h
    · exact h
  | bitUpset i p => exact ⟨_, rfl, hP.upset h (hu i p rfl) p⟩
  | pollSend i | effectFrameSend i | assignSend i | effectFrameEnd i | assignEnd i | pollAnswer i _ | replyWindowClose i
  | strayFrame i _ | dozeWaitEnd i | emptyRotationWaitEnd i => exact pair rfl

/-! ### Event items -/

/-- Inside an event item the other blocks write no record and reset nothing (R130). -/
theorem besides (hP : KeptByRecordOps upsets P) (h : P s) (c : Instr) (hu : ∀ i p, c = .bitUpset i p → upsets i) :
    P (besides c s) := by
  by_cases loads : loadsRecords c
  · have idle : Machine.besides c s = s := by
      rcases loads with ⟨body, rfl | rfl | rfl⟩ | rfl | rfl | rfl <;> rfl
    rwa [idle]
  · rcases besides_eq c s with hb | ⟨takes, hb⟩
    · rwa [hb]
    · obtain ⟨t, ht, kept⟩ := hP.exec_of_not_take h loads takes hu
      rwa [Host.Outcome.next.inj (hb.symm.trans ht)]

theorem runAction (hP : KeptByRecordOps upsets P) (h : P s) {ev : Event} {home : Option (Fin 16)} {a : Action}
    (ht : runAction s ev home a = .done t) : P t := by
  rcases runAction_performs ht with rfl | ⟨performed, hhome⟩
  · exact h
  · exact hP.performAction h hhome performed

variable {asides : List Aside}

theorem scanRule (hP : KeptByRecordOps upsets P) (hu : ∀ x ∈ asides, ∀ i p, x.command = .bitUpset i p → upsets i) (h : P s)
    (ev : Event) (i : Fin 256) : P (scanRule asides ev i s).1 := by
  have read := hP.checkedRead h .scan i
  rcases scanRule_cases asides ev s i with hs | ⟨r, -, -, hs⟩ <;> rw [hs]
  · exact read
  · refine runActions_of_asides asides P (fun x hx _ hs => hP.besides hs x.command (hu x hx)) ev i r.home
      (fun _ _ _ hs ht => hP.runAction hs ht) (fun _ _ hs => hP.records hs rfl) r.actions 1 ?_
    split
    · exact hP.records read rfl
    · exact read

/-- A whole event item, in which other blocks upset these entries only (R110, R119, R128, R130). -/
theorem runEvent (hP : KeptByRecordOps upsets P) (hu : ∀ x ∈ asides, ∀ i p, x.command = .bitUpset i p → upsets i) (h : P s)
    (ev : Event) : P (runEvent asides ev s) := by
  have hbesides : ∀ x ∈ asides, ∀ s, P s → P (Machine.besides x.command s) :=
    fun x hx _ hs => hP.besides hs x.command (hu x hx)
  have scanned : P (scanRules asides ev 0 s allRules).1 :=
    scanRules_of_asides asides P hbesides ev (fun _ i hs => hP.scanRule hu hs ev i) allRules 0 h
  have now := during_of_asides asides P hbesides .echo scanned
  unfold Machine.runEvent
  simp only []
  split <;> exact hP.records now rfl

theorem runExpiry (hP : KeptByRecordOps upsets P) (hu : ∀ x ∈ s.asides, ∀ i p, x.command = .bitUpset i p → upsets i) (h : P s)
    {q : Fin 16} {rest : List (Fin 16)} (listed : s.engine.expiry = q :: rest) : P (s.runExpiry q) := by
  unfold State.runExpiry
  simp only [listed, List.tail_cons]
  split
  · exact hP.records (hP.expire h listed) rfl
  · refine hP.runEvent hu (hP.records (hP.takeExpiry h listed) ?_) _
    rfl

theorem expiry_of_choose {q : Fin 16} (h : s.choose = some (.expiry q)) : ∃ rest, s.engine.expiry = q :: rest := by
  unfold State.choose at h
  split at h
  case isFalse => cases h
  split at h
  · cases h
  split at h
  case isFalse => cases h
  unfold State.eventChoice State.fifoChoice at h
  simp only [] at h
  repeat' split at h
  all_goals cases h
  exact ⟨_, by assumption⟩

/-- Every command but the writes of a record and the resets. -/
theorem exec (hP : KeptByRecordOps upsets P) (h : P s) {c : Instr} (loads : ¬ loadsRecords c)
    (hu : ∀ i p, c = .bitUpset i p → upsets i) (hasides : ∀ x ∈ s.asides, ∀ i p, x.command = .bitUpset i p → upsets i) :
    ∃ t, exec c s = .next t ∧ P t := by
  by_cases takes : takesEvent c
  · rcases takes with rfl | rfl | rfl
    all_goals
      refine ⟨_, rfl, ?_⟩
      split
    · refine hP.runEvent hasides (hP.records h ?_) _
      exact s.records_withArm _ _
    · exact h
    · next chosen =>
      obtain ⟨rest, listed⟩ := expiry_of_choose chosen
      exact hP.runExpiry hasides h listed
    · exact h
    · refine hP.runEvent hasides (hP.records h ?_) _
      rfl
    · exact h
  · exact hP.exec_of_not_take h loads takes hu

end KeptByRecordOps

end Sys2Proof.Machine
end

section
/-! The quests, their timers and the expiry list stay legal (R60, R61, R78, R83, R185). -/

namespace Sys2Proof.Machine

open Sys2Proof

/-! ### One quest -/

section OneQuest

variable {x : Quest}

/-- A clamp with its limits in order covers every value stored through it (R83). -/
theorem Clamp.covers_storedValue {k : Clamp} (h : k.lo.toInt ≤ k.hi.toInt) (e : Int) : k.covers (storedValue (some k) e) := by
  obtain ⟨above, below⟩ := clampTo_within k e h
  have lo := k.lo.le_toInt
  have hi := k.hi.toInt_lt
  have same : (storedValue (some k) e).toInt = clampTo k e := wrapped_of_range _ (by omega) (by omega)
  rw [Clamp.covers, same]
  exact ⟨above, below⟩

theorem Quest.sound.withStage (h : x.sound) {st : Fin 16} (hst : st.val ≤ x.definition.finalStage.val) :
    { x with stage := st }.sound := by
  obtain ⟨-, fits, clamped⟩ := h
  exact ⟨hst, fits, clamped⟩

/-- A value that the counter's clamp covers may be stored, with any flags (R80, R83). -/
theorem Quest.sound.store (h : x.sound) {c : Fin 4} {v : Half}
    (hv : ∀ k, (x.definition.counters[c]).clamp = some k → k.covers v) (flags : Flags) :
    { x with counters := x.counters.set c v, flags := flags }.sound := by
  obtain ⟨stage, fits, clamped⟩ := h
  refine ⟨stage, fits, fun d k hk => ⟨(clamped d k hk).1, ?_⟩⟩
  by_cases hd : d = c
  · subst hd
    simpa using hv k hk
  · simpa [Vector.getElem_set_ne _ _ (Fin.val_ne_of_ne (Ne.symm hd))] using (clamped d k hk).2

/-- What a COUNT action stores lies within the counter's clamp (R83, R84). -/
theorem Quest.sound.count (h : x.sound) (op : CountOp) (c : Fin 4) (b : Half) (k : Clamp)
    (hk : (x.definition.counters[c]).clamp = some k) :
    k.covers (countAction op (x.definition.counters[c]).clamp x.counters[c] b).1 := by
  obtain ⟨-, -, clamped⟩ := h
  obtain ⟨⟨lo, hi⟩, current⟩ := clamped c k hk
  rw [hk]
  cases op
  case cmp | test => exact current
  all_goals exact Clamp.covers_storedValue (Int.le_trans lo hi) _

theorem Quest.sound.setIf (h : x.sound) (condition : Fin 16) (c : Fin 4) (k : Clamp)
    (hk : (x.definition.counters[c]).clamp = some k) :
    k.covers (setIfAction condition (x.definition.counters[c]).clamp x.flags).1 := by
  obtain ⟨-, -, clamped⟩ := h
  obtain ⟨⟨lo, hi⟩, -⟩ := clamped c k hk
  rw [hk]
  exact Clamp.covers_storedValue (Int.le_trans lo hi) _

/-- The runtime part of a quest as a load or a start leaves it is legal with any definition whose clamps cover the initial
values (R60, R62, R63). -/
theorem Quest.sound_initial {d : QuestDef} (hd : ∀ (c : Fin 4) (k : Clamp), (d.counters[c]).clamp = some k →
      k.covers (d.counters[c]).initial) {st : QuestState} (hst : st = .loaded ∨ st = .active) :
    Quest.sound { definition := d, state := st, stage := 0, counters := d.initials, flags := Flags.zero,
                  endReason := .none } := by
  refine ⟨Nat.zero_le _, ?_, fun c k hk => ⟨hd c k hk, ?_⟩⟩
  · rcases hst with rfl | rfl <;> rfl
  · simpa [QuestDef.initials] using hd c k hk

theorem Quest.sound.initial_covered (h : x.sound) (c : Fin 4) (k : Clamp) (hk : (x.definition.counters[c]).clamp = some k) :
    k.covers (x.definition.counters[c]).initial := by
  obtain ⟨-, -, clamped⟩ := h
  exact (clamped c k hk).1

/-- A quest ends with a reason that goes with its state (R70, R185). -/
theorem Quest.sound.ended (h : x.sound) {st : QuestState} {reason : EndReason}
    (hr : (st, reason) ∈ [(QuestState.complete, EndReason.completed), (.failed, .failedByRule), (.failed, .aborted),
      (.failed, .timedOut)]) : { x with state := st, endReason := reason }.sound := by
  obtain ⟨stage, -, clamped⟩ := h
  refine ⟨stage, ?_, clamped⟩
  simp only [List.mem_cons, Prod.mk.injEq, List.not_mem_nil, or_false] at hr
  rcases hr with ⟨rfl, rfl⟩ | ⟨rfl, rfl⟩ | ⟨rfl, rfl⟩ | ⟨rfl, rfl⟩ <;> rfl

/-- GAME-RESET loads every quest that is not IDLE again (R72). -/
theorem Quest.sound.gameReset (h : x.sound) : x.gameReset.sound := by
  unfold Quest.gameReset
  split
  · exact h
  · exact Quest.sound_initial h.initial_covered (.inl rfl)

end OneQuest

/-! ### All quests -/

@[simp] theorem State.withTimer_timer_self (s : State) (q : Fin 16) (t : Timer) : (s.withTimer q t).timers[q] = t := by
  simp [State.withTimer]

theorem State.withTimer_timer_ne (s : State) {q k : Fin 16} (t : Timer) (h : k ≠ q) :
    (s.withTimer q t).timers[k] = s.timers[k] := by
  simp [State.withTimer, Vector.getElem_set_ne _ _ (Fin.val_ne_of_ne h.symm)]

/-- Nothing of a quest, its timer or its place in the expiry list has changed from `s` to `t`, but for the quest `q`. -/
structure State.WithinQuest (s : State) (q : Fin 16) (t : State) : Prop where
  quest : ∀ k, k ≠ q → t.quest k = s.quest k
  timer : ∀ k : Fin 16, k ≠ q → t.timers[k] = s.timers[k]
  expiry : ∀ k ∈ t.engine.expiry, k ≠ q → k ∈ s.engine.expiry

namespace State.questsSound

variable {s t : State} {q : Fin 16}

theorem of_view (h : s.questsSound) (quests : t.engine.quests = s.engine.quests) (expiry : t.engine.expiry = s.engine.expiry)
    (timers : t.timers = s.timers) : t.questsSound := by
  simpa only [State.questsSound, State.quest, quests, expiry, timers] using h

theorem of_records (h : s.questsSound) (ht : t.records = s.records) : t.questsSound := by
  simp only [State.records, Prod.mk.injEq] at ht
  obtain ⟨quests, expiry, timers, -⟩ := ht
  exact h.of_view quests expiry timers

/-- Only the quest that has changed has to be looked at. -/
theorem within (h : s.questsSound) (only : s.WithinQuest q t) (nodup : t.engine.expiry.Nodup) (sound : (t.quest q).sound)
    (running : t.timers[q].running = true → (t.quest q).state = .active)
    (listed : q ∈ t.engine.expiry → (t.quest q).state = .active ∧ t.timers[q].running = false) : t.questsSound := by
  obtain ⟨sounds, runnings, -, listeds⟩ := h
  refine ⟨fun k => ?_, fun k hk => ?_, nodup, fun k hk => ?_⟩ <;> by_cases hq : k = q
  · exact hq ▸ sound
  · exact only.quest k hq ▸ sounds k
  · subst hq
    exact running hk
  · rw [only.timer k hq] at hk
    exact only.quest k hq ▸ runnings k hk
  · subst hq
    exact listed hk
  · rw [only.quest k hq, only.timer k hq]
    exact listeds k (only.expiry k hk hq)

/-! ### The operations on one quest -/

/-- A quest record is replaced by a legal one in the same state. -/
theorem withQuest (h : s.questsSound) {x : Quest} (sound : x.sound) (same : x.state = (s.quest q).state) :
    (s.withQuest q x).questsSound := by
  have ⟨_, runnings, nodup, listeds⟩ := h
  refine h.within (q := q) ⟨fun k hk => s.withQuest_quest_ne q k x hk, fun _ _ => rfl, fun _ hk _ => hk⟩ nodup ?_ ?_ ?_ <;>
    rw [State.withQuest_quest_self]
  · exact sound
  · rw [same]
    exact runnings q
  · rw [same]
    exact listeds q

/-- A quest that ends has its timer stopped and its expiry removed; what was listed of it is nothing any more (R70). -/
theorem endQuest (h : s.questsSound) {u : State} (quests : u.engine.quests = s.engine.quests) (timers : u.timers = s.timers)
    (expiry : u.engine.expiry.Sublist s.engine.expiry) {st : QuestState} {reason : EndReason}
    (hr : (st, reason) ∈ [(QuestState.complete, EndReason.completed), (.failed, .failedByRule), (.failed, .aborted),
      (.failed, .timedOut)]) : (u.endQuest q st reason).questsSound := by
  have quest (k : Fin 16) : u.quest k = s.quest k := by simp only [State.quest, quests]
  have ended : (u.endQuest q st reason).quest q = { s.quest q with state := st, endReason := reason } := by
    rw [← quest q]
    exact u.withQuest_quest_self q _
  have stopped : (u.endQuest q st reason).timers[q] = ⟨false, u.timers[q].remaining⟩ := State.withTimer_timer_self ..
  have ⟨sounds, _, nodup, _⟩ := h
  refine h.within (q := q) ⟨fun k hk => ?_, fun k hk => ?_, fun k hk _ => ?_⟩ ?_ ?_ ?_ ?_
  · exact (u.withQuest_quest_ne q k _ hk).trans (quest k)
  · rw [← timers]
    exact State.withTimer_timer_ne _ _ hk
  · exact expiry.mem (List.mem_of_mem_filter hk)
  · exact (nodup.sublist expiry).filter _
  · rw [ended]
    exact (sounds q).ended hr
  · rw [stopped]
    nofun
  · exact fun hk => absurd rfl (bne_iff_ne.mp (List.mem_filter.mp hk).2)

theorem startTimer (h : s.questsSound) (active : (s.quest q).state = .active) (ticks : Half) :
    (s.startTimer q ticks).questsSound := by
  have ⟨sounds, _, nodup, _⟩ := h
  refine h.within (q := q) ⟨fun _ _ => rfl, fun k hk => s.withTimer_timer_ne _ hk, fun k hk _ => List.mem_of_mem_filter hk⟩
    (nodup.filter _) (sounds q) (fun _ => active) ?_
  exact fun hk => absurd rfl (bne_iff_ne.mp (List.mem_filter.mp hk).2)

theorem stopTimer (h : s.questsSound) : (s.stopTimer q).questsSound := by
  have ⟨sounds, _, nodup, _⟩ := h
  have stopped : (s.stopTimer q).timers[q] = ⟨false, s.timers[q].remaining⟩ := State.withTimer_timer_self ..
  refine h.within (q := q) ⟨fun _ _ => rfl, fun k hk => s.withTimer_timer_ne _ hk, fun k hk _ => List.mem_of_mem_filter hk⟩
    (nodup.filter _) (sounds q) ?_ ?_
  · rw [stopped]
    nofun
  · exact fun hk => absurd rfl (bne_iff_ne.mp (List.mem_filter.mp hk).2)

/-- A quest that is not ACTIVE has no running timer and no listed expiry (R61, R78). -/
theorem quiet (h : s.questsSound) (inactive : (s.quest q).state ≠ .active) :
    s.timers[q].running = false ∧ q ∉ s.engine.expiry := by
  obtain ⟨-, runnings, -, listeds⟩ := h
  exact ⟨Bool.eq_false_iff.mpr fun hr => inactive (runnings q hr), fun hq => inactive (listeds q hq).1⟩

/-- A LOADED quest becomes ACTIVE, and its start timer runs (R63, R76). -/
theorem activate (h : s.questsSound) (loaded : (s.quest q).state = .loaded) : (s.activate q).questsSound := by
  have ⟨sounds, _, nodup, _⟩ := h
  obtain ⟨stopped, unlisted⟩ := h.quiet (q := q) (by simp [loaded])
  have activated : (s.withQuest q
      { definition := (s.quest q).definition, state := .active, stage := 0, counters := (s.quest q).definition.initials,
        flags := Flags.zero, endReason := .none }).questsSound := by
    refine h.within (q := q) ⟨fun k hk => s.withQuest_quest_ne q k _ hk, fun _ _ => rfl, fun _ hk _ => hk⟩ nodup ?_ ?_ ?_
    · rw [State.withQuest_quest_self]
      exact Quest.sound_initial (sounds q).initial_covered (.inr rfl)
    · exact fun _ => by rw [State.withQuest_quest_self]
    · exact fun hk => absurd hk unlisted
  unfold State.activate
  simp only []
  split
  · exact activated.startTimer (by rw [State.withQuest_quest_self]) _
  · exact activated

/-- A timer that a tick brings to 0 stops and joins the list, in which its quest, whose timer ran, had no entry (R75,
R78). -/
theorem tickTimer (h : s.questsSound) (q : Fin 16) : (s.tickTimer q).questsSound := by
  have ⟨sounds, runnings, nodup, listeds⟩ := h
  unfold State.tickTimer
  simp only []
  split
  case isFalse => exact h
  next runs =>
  have active := runnings q runs
  have unlisted : q ∉ s.engine.expiry := fun hq => absurd runs (Bool.eq_false_iff.mp (listeds q hq).2)
  have others (k : Fin 16) (hk : k ≠ q) (t : Timer) : (s.withTimer q t).timers[k] = s.timers[k] := s.withTimer_timer_ne t hk
  split
  · refine h.within (q := q) ⟨fun _ _ => rfl, fun k hk => others k hk _, fun k hk hq => ?_⟩ ?_ (sounds q) (fun _ => active)
      (fun _ => ⟨active, congrArg Timer.running (s.withTimer_timer_self q _)⟩)
    · exact (List.mem_append.mp hk).resolve_right (by simpa using hq)
    · exact nodup.append (List.nodup_singleton q) (by simpa using unlisted)
  · exact h.within (q := q) ⟨fun _ _ => rfl, fun k hk => others k hk _, fun _ hk _ => hk⟩ nodup (sounds q) (fun _ => active)
      (fun hq => absurd hq unlisted)

/-- A QUEST-WRITE of a quest that is not ACTIVE leaves it LOADED with its timer stopped (R62). -/
theorem load (h : s.questsSound) (inactive : (s.quest q).state ≠ .active) {d : QuestDef}
    (hd : ∀ (c : Fin 4) (k : Clamp), (d.counters[c]).clamp = some k → k.covers (d.counters[c]).initial) :
    ((s.withQuest q (Quest.loaded d)).withTimer q ⟨false, 0⟩).questsSound := by
  have ⟨_, _, nodup, _⟩ := h
  obtain ⟨-, unlisted⟩ := h.quiet inactive
  have loaded : ((s.withQuest q (Quest.loaded d)).withTimer q ⟨false, 0⟩).quest q = Quest.loaded d :=
    s.withQuest_quest_self q _
  have stopped : ((s.withQuest q (Quest.loaded d)).withTimer q ⟨false, 0⟩).timers[q] = ⟨false, 0⟩ :=
    State.withTimer_timer_self ..
  refine h.within (q := q) ⟨fun k hk => s.withQuest_quest_ne q k _ hk, fun k hk => ?_, fun _ hk _ => hk⟩ nodup ?_ ?_
    (fun hq => absurd hq unlisted)
  · exact State.withTimer_timer_ne _ _ hk
  · rw [loaded]
    exact Quest.sound_initial hd (.inl rfl)
  · rw [stopped]
    nofun

/-- GAME-RESET stops the timer of every quest that is not IDLE, and an IDLE quest's timer does not run (R72, R78). -/
theorem gameReset (h : s.questsSound) : s.gameReset.questsSound := by
  have ⟨sounds, _, _, _⟩ := h
  refine ⟨fun q => ?_, fun q hr => ?_, List.nodup_nil, nofun⟩
  · rw [s.gameReset_quest]
    exact (sounds q).gameReset
  · rw [s.gameReset_timer] at hr
    split at hr
    · next idle => exact absurd hr (Bool.eq_false_iff.mp (h.quiet (by simp [idle])).1)
    · cases hr

end State.questsSound

/-! ### All commands -/

theorem checkedRead_quests (found : FoundBy) (i : Fin 256) (s : State) :
    (checkedRead found i s).1.engine.quests = s.engine.quests ∧
      (checkedRead found i s).1.engine.expiry = s.engine.expiry ∧ (checkedRead found i s).1.timers = s.timers := by
  rcases checkedRead_cases found i s with ⟨-, hr⟩ | ⟨p, -, hr⟩ | ⟨-, hr⟩ <;> rw [hr] <;> exact ⟨rfl, rfl, rfl⟩

theorem State.questsSound.keptByRecordOps : KeptByRecordOps (fun _ => True) State.questsSound where
  records h := h.of_records
  count {s q} h _ op c o := h.withQuest ((h.1 q).store ((h.1 q).count op c _) _) rfl
  setIf {s q} h _ c condition := h.withQuest ((h.1 q).store ((h.1 q).setIf condition c) _) rfl
  stage {s q} h _ st hst := h.withQuest ((h.1 q).withStage hst) rfl
  endQuest h _ st reason hr := h.endQuest rfl rfl (List.Sublist.refl _)
    (List.mem_append_left [(QuestState.failed, EndReason.timedOut)] hr)
  expire {s q rest} h listed := by
    have shorter : rest.Sublist s.engine.expiry := listed ▸ List.sublist_cons_self q rest
    exact h.endQuest (u := s.withEngine { s.engine with expiry := rest }) rfl rfl shorter (by simp)
  takeExpiry {s q rest} h listed := by
    obtain ⟨sounds, runnings, nodup, listeds⟩ := h
    rw [listed] at nodup listeds
    exact ⟨sounds, runnings, nodup.of_cons, fun k hk => listeds k (List.mem_cons_of_mem q hk)⟩
  activate h := h.activate
  startTimer h := h.startTimer
  stopTimer h _ := h.stopTimer
  tickTimer h := h.tickTimer
  gameReset h := h.gameReset
  checkedRead {s} h found i := by
    obtain ⟨quests, expiry, timers⟩ := checkedRead_quests found i s
    exact h.of_view quests expiry timers
  endVisit h := h.of_view rfl rfl rfl
  upset h _ _ := h.of_view rfl rfl rfl

/-- A clamp that a QUEST-WRITE body carries is in order and covers the counter's initial value (R62). -/
theorem counterField_covered {body : List Byte} {n : Fin 4} {d : CounterDef} (h : counterField body n = some d) (k : Clamp)
    (hk : d.clamp = some k) : k.covers d.initial := by
  unfold counterField at h
  simp only [] at h
  split at h
  · split at h
    · next ordered =>
      cases h
      cases hk
      exact ⟨ordered.2.1, ordered.2.2⟩
    · cases h
  · cases h
    cases hk

/-- A body is read as a QUEST-WRITE exactly when each of its fields is (R62). -/
theorem parseQuestWrite_eq_some {body : List Byte} {q : Fin 16} {d : QuestDef} :
    parseQuestWrite body = some (q, d) ↔
      body.length = 32 ∧ numberField 16 (byteAt body 0) = some q ∧ numberField 16 (byteAt body 1) = some d.finalStage ∧
      prerequisiteField q (byteAt body 2) = some d.prerequisite ∧ optionalField 6 (byteAt body 3) = some d.owner ∧
      onTimeoutField (byteAt body 4) = some d.onTimeout ∧ startTimerField body = some d.startTimer ∧
      ∀ c : Fin 4, counterField body c = some d.counters[c] := by
  constructor
  · intro h
    unfold parseQuestWrite at h
    split at h
    case isFalse => cases h
    next length =>
    split at h
    · cases h
    next index =>
    split at h
    case h_2 => cases h
    next final prerequisite owner timeout start =>
    split at h
    case h_2 => cases h
    next c0 c1 c2 c3 =>
    cases h
    refine ⟨length, index, final, prerequisite, owner, timeout, start, fun c => ?_⟩
    match c with
    | 0 => exact c0
    | 1 => exact c1
    | 2 => exact c2
    | 3 => exact c3
  · rintro ⟨length, index, final, prerequisite, owner, timeout, start, counters⟩
    have listed : #v[d.counters[(0 : Fin 4)], d.counters[(1 : Fin 4)], d.counters[(2 : Fin 4)], d.counters[(3 : Fin 4)]] =
        d.counters := by
      ext n hn
      match n with
      | 0 | 1 | 2 | 3 => rfl
    simp only [parseQuestWrite, length, index, final, prerequisite, owner, timeout, start, counters, if_true, listed]

theorem parseQuestWrite_covered {body : List Byte} {q : Fin 16} {d : QuestDef} (h : parseQuestWrite body = some (q, d))
    (c : Fin 4) (k : Clamp) (hk : (d.counters[c]).clamp = some k) : k.covers (d.counters[c]).initial := by
  obtain ⟨-, -, -, -, -, -, -, counters⟩ := parseQuestWrite_eq_some.mp h
  exact counterField_covered (counters c) k hk

theorem State.questsSound.questWriteItem {s : State} (h : s.questsSound) (body : List Byte) :
    (questWriteItem body s).1.questsSound := by
  unfold Machine.questWriteItem
  split
  · exact h
  · next q d hd =>
    split
    · exact h
    · next inactive => exact h.load inactive (parseQuestWrite_covered hd)

/-- The writes of a record and the resets (R62, R105, R140, R152). -/
theorem State.questsSound.exec_loads {s : State} (h : s.questsSound) {c : Instr} (loads : loadsRecords c) :
    ∃ t, exec c s = .next t ∧ t.questsSound := by
  have reset {t : State} (quests : t.engine = State.reset.engine) (timers : t.timers = State.reset.timers) : t.questsSound := by
    obtain ⟨-, -, -, sound, -⟩ := resetStateIsSound
    exact sound.of_view (by rw [quests]) (by rw [quests]) timers
  rcases loads with ⟨body, rfl | rfl | rfl⟩ | rfl | rfl | rfl
  · refine ⟨_, rfl, keptByRecordOps.serveItem h (fun ht => ?_) 0x0A⟩
    unfold ruleWriteItem
    split
    · exact ht
    · exact ht.of_view rfl rfl rfl
  · refine ⟨_, rfl, keptByRecordOps.serveItem h (fun ht => ?_) 0x0F⟩
    unfold rawWriteItem
    split
    · exact ht
    · exact ht.of_view rfl rfl rfl
  · exact ⟨_, rfl, keptByRecordOps.serveItem h (fun ht => ht.questWriteItem body) 0x10⟩
  · exact ⟨_, rfl, reset rfl rfl⟩
  · exact ⟨_, rfl, reset rfl rfl⟩
  · refine ⟨_, rfl, ?_⟩
    split
    · exact reset rfl rfl
    · exact h

/-- Settles O9: an idle step changes nothing; every command keeps the quests legal because the few operations on a quest, its
timer and its expiry do. -/
theorem questsStayLegal : Obligations.QuestsStayLegal := by
  intro s t hs h
  unfold step at h
  split at h
  · cases h
    exact hs
  · next c rest _ =>
    have dequeued : (s.withPending rest).questsSound := hs
    have runs : ∃ u, exec c (s.withPending rest) = .next u ∧ u.questsSound := by
      by_cases loads : loadsRecords c
      · exact dequeued.exec_loads loads
      · exact State.questsSound.keptByRecordOps.exec dequeued loads (fun _ _ _ => trivial) (fun _ _ _ _ _ => trivial)
    obtain ⟨u, hu, sound⟩ := runs
    rwa [Host.Outcome.next.inj (h.symm.trans hu)]

end Sys2Proof.Machine
end

section
/-! What stands in rule memory and in the quests' definitions unless it is written, upset or reset (R60, R62, R72, R101,
R144, R149, R153). -/

namespace Sys2Proof.Machine

open Sys2Proof

/-! ### An entry that reads clean -/

/-- Rule memory holds this entry, and no write-back is pending for it. -/
def RuleMemory.Holds (m : RuleMemory) (i : Fin 256) (e : BitVec 233) : Prop :=
  m.entries[i] = e ∧ ∀ w, m.writeBack = some w → w.rule ≠ i

namespace RuleMemory.Holds

variable {m : RuleMemory} {i j : Fin 256} {e fixed : BitVec 233}

theorem write (h : m.Holds i e) (hj : j ≠ i) : (m.write j fixed).Holds i e := by
  obtain ⟨entry, pending⟩ := h
  exact ⟨(m.write_entry_ne j i fixed hj.symm).trans entry,
    fun w hw => pending w ((m.write_writeBack j fixed w).mp hw).1⟩

/-- A correction is of its own entry (R144, R149). -/
theorem correct (h : m.Holds i e) (hj : j ≠ i) (found : FoundBy) : (m.correct found j fixed).Holds i e := by
  cases found with
  | scan | read => exact h.write hj
  | scrub =>
    refine ⟨h.1, fun w hw => ?_⟩
    cases hw
    exact hj

theorem captured (h : m.Holds i e) (c : Capture) : (m.captured c).Holds i e := by
  rcases m.captured_cases c with ⟨-, hc⟩ | ⟨-, hc⟩ <;> rw [hc]
  · exact h
  · exact h

theorem endVisit (h : m.Holds i e) : m.endVisit.Holds i e := by
  obtain ⟨entry, pending⟩ := h
  unfold RuleMemory.endVisit
  split
  · next w hw =>
    exact ⟨by simpa [Vector.getElem_set_ne _ _ (Fin.val_ne_of_ne (pending w hw))] using entry, nofun⟩
  · exact ⟨entry, pending⟩

theorem upset (h : m.Holds i e) (hj : j ≠ i) (p : Fin 233) :
    { m with entries := m.entries.set j (flipBit m.entries[j] p) }.Holds i e := by
  obtain ⟨entry, pending⟩ := h
  exact ⟨by simpa [Vector.getElem_set_ne _ _ (Fin.val_ne_of_ne hj)] using entry, pending⟩

end RuleMemory.Holds

theorem State.activate_memory (s : State) (q : Fin 16) : (s.activate q).memory = s.memory := by
  unfold State.activate
  simp only []
  split <;> rfl

theorem State.tickTimer_memory (s : State) (q : Fin 16) : (s.tickTimer q).memory = s.memory := by
  unfold State.tickTimer
  simp only []
  split
  · split <;> rfl
  · rfl

/-- A checked read corrects an entry of one changed bit and no other, and loses none (R144, R145). -/
theorem RuleMemory.Holds.checkedRead {s : State} {i : Fin 256} {e : BitVec 233} (h : s.memory.Holds i e)
    (clean : readOutcome e = .clean) (found : FoundBy) (j : Fin 256) : (checkedRead found j s).1.memory.Holds i e := by
  rcases checkedRead_cases found j s with ⟨-, hr⟩ | ⟨p, changed, hr⟩ | ⟨-, hr⟩ <;> rw [hr]
  · exact h
  · have other : j ≠ i := by
      rintro rfl
      rw [h.1, clean] at changed
      cases changed
    have counted : { s.memory with corrected := saturate 65535 s.memory.corrected }.Holds i e := h
    exact (counted.captured _).correct other found
  · have counted : { s.memory with uncorrectable := saturate 255 s.memory.uncorrectable }.Holds i e := h
    exact counted.captured _

/-- A clean entry without a pending write-back is touched by upsets of its own bits only. -/
theorem RuleMemory.Holds.keptByRecordOps {i : Fin 256} {e : BitVec 233} (clean : readOutcome e = .clean) :
    KeptByRecordOps (· ≠ i) fun s => s.memory.Holds i e where
  records {s t} h ht := by
    simp only [State.records, Prod.mk.injEq] at ht
    obtain ⟨-, -, -, entries, writeBack⟩ := ht
    rwa [RuleMemory.Holds, entries, writeBack]
  count h _ _ _ _ := h
  setIf h _ _ _ := h
  stage h _ _ _ := h
  endQuest h _ _ _ _ := h
  expire h _ := h
  takeExpiry h _ := h
  activate {s q} h _ := (s.activate_memory q).symm ▸ h
  startTimer h _ _ := h
  stopTimer h _ := h
  tickTimer {s} h q := (s.tickTimer_memory q).symm ▸ h
  gameReset h := h
  checkedRead h found j := h.checkedRead clean found j
  endVisit h := h.endVisit
  upset h hj p := RuleMemory.Holds.upset h hj p

/-! ### A quest's definition -/

section Definition

variable (s : State) (q k : Fin 16)

/-- A quest's definition. -/
def State.definition : QuestDef := (s.quest q).definition

theorem State.definition_withQuest {x : Quest} (h : x.definition = s.definition k) :
    (s.withQuest k x).definition q = s.definition q := by
  by_cases hq : q = k
  · subst hq
    rw [State.definition, State.withQuest_quest_self, h]
  · rw [State.definition, State.withQuest_quest_ne s k q x hq, State.definition]

theorem State.definition_endQuest (st : QuestState) (reason : EndReason) :
    (s.endQuest k st reason).definition q = s.definition q :=
  s.definition_withQuest q k (x := { s.quest k with state := st, endReason := reason }) rfl

theorem State.definition_activate : (s.activate k).definition q = s.definition q := by
  have activated := s.definition_withQuest q k
    (x := { definition := (s.quest k).definition, state := .active, stage := 0, counters := (s.quest k).definition.initials,
            flags := Flags.zero, endReason := .none }) rfl
  unfold State.activate
  simp only []
  split <;> exact activated

theorem State.definition_tickTimer : (s.tickTimer k).definition q = s.definition q := by
  unfold State.tickTimer
  simp only []
  split
  · split <;> rfl
  · rfl

theorem State.definition_gameReset : s.gameReset.definition q = s.definition q := by
  rw [State.definition, s.gameReset_quest, Quest.gameReset]
  split <;> rfl

end Definition

/-- No operation on a quest but its load touches its definition (R60). -/
theorem State.definition_keptByRecordOps (q : Fin 16) (d : QuestDef) :
    KeptByRecordOps (fun _ => True) fun s => s.definition q = d where
  records {s t} h ht := by
    simp only [State.records, Prod.mk.injEq] at ht
    obtain ⟨quests, -⟩ := ht
    rw [← h]
    simp only [State.definition, State.quest, quests]
  count {s k} h _ _ _ _ := (s.definition_withQuest q k (by rfl)).trans h
  setIf {s k} h _ _ _ := (s.definition_withQuest q k (by rfl)).trans h
  stage {s k} h _ _ _ := (s.definition_withQuest q k (by rfl)).trans h
  endQuest {s k} h _ st reason _ := (s.definition_endQuest q k st reason).trans h
  expire {s k rest} h _ := (State.definition_endQuest _ q k _ _).trans h
  takeExpiry h _ := h
  activate {s k} h _ := (s.definition_activate q k).trans h
  startTimer h _ _ := h
  stopTimer h _ := h
  tickTimer {s} h k := (s.definition_tickTimer q k).trans h
  gameReset {s} h := (s.definition_gameReset q).trans h
  checkedRead {s} h found i := by
    rw [← h]
    simp only [State.definition, State.quest, (checkedRead_quests found i s).1]
  endVisit h := h
  upset h _ _ := h

/-- A QUEST-WRITE of another quest (R62). -/
theorem definition_questWriteItem {body : List Byte} {q : Fin 16} (hb : byteAt body 0 ≠ byteOf q.val) (s : State) :
    (questWriteItem body s).1.definition q = s.definition q := by
  unfold questWriteItem
  split
  · rfl
  · next k d hd =>
    split
    · rfl
    · obtain ⟨-, index, -⟩ := parseQuestWrite_eq_some.mp hd
      have other : q ≠ k := by
        rintro rfl
        exact hb ((numberField_eq_some (by decide)).mp index)
      exact congrArg Quest.definition (s.withQuest_quest_ne k q _ other)

/-- Settles O13: neither an entry nor a definition is touched by the operations that the other commands are made of. -/
theorem storedRecordsStand : Obligations.StoredRecordsStand := by
  refine ⟨fun c s t i clean pending writes upset asides powerOn resetLine rstnRelease ht => ?_,
    fun c s t q other powerOn resetLine rstnRelease ht => ?_⟩
  · have kept := RuleMemory.Holds.keptByRecordOps (i := i) clean
    have start : s.memory.Holds i s.memory.entries[i] := ⟨rfl, fun w hw => by rw [pending] at hw; cases hw⟩
    have runs : ∃ u, exec c s = .next u ∧ u.memory.Holds i s.memory.entries[i] := by
      by_cases loads : loadsRecords c
      · rcases loads with ⟨body, rfl | rfl | rfl⟩ | rfl | rfl | rfl
        · exact absurd rfl (writes body).1
        · exact absurd rfl (writes body).2
        · refine ⟨_, rfl, kept.serveItem start (fun hu => ?_) 0x10⟩
          unfold questWriteItem
          split
          · exact hu
          split <;> exact hu
        · exact absurd rfl powerOn
        · exact absurd rfl resetLine
        · exact absurd rfl rstnRelease
      · refine kept.exec start loads ?_ fun x hx j p hj e => asides x hx p (e ▸ hj)
        exact fun j p hj e => upset p (e ▸ hj)
    obtain ⟨u, hu, entry, -⟩ := runs
    rwa [Host.Outcome.next.inj (ht.symm.trans hu)]
  · have kept := State.definition_keptByRecordOps q (s.definition q)
    have runs : ∃ u, exec c s = .next u ∧ u.definition q = s.definition q := by
      by_cases loads : loadsRecords c
      · rcases loads with ⟨body, rfl | rfl | rfl⟩ | rfl | rfl | rfl
        · refine ⟨_, rfl, kept.serveItem rfl (fun hu => ?_) 0x0A⟩
          unfold ruleWriteItem
          split <;> exact hu
        · refine ⟨_, rfl, kept.serveItem rfl (fun hu => ?_) 0x0F⟩
          unfold rawWriteItem
          split <;> exact hu
        · exact ⟨_, rfl, kept.serveItem rfl (fun hu => (definition_questWriteItem (other body rfl) _).trans hu) 0x10⟩
        · exact absurd rfl powerOn
        · exact absurd rfl resetLine
        · exact absurd rfl rstnRelease
      · exact kept.exec rfl loads (fun _ _ _ => trivial) fun _ _ _ _ _ => trivial
    obtain ⟨u, hu, same⟩ := runs
    rwa [Host.Outcome.next.inj (ht.symm.trans hu)]

end Sys2Proof.Machine
end

section
/-! The requests on quests and the tick: QUEST-WRITE, QUEST-START, QUEST-ABORT (R62, R63, R70, R71, R75, R76, R183). -/

namespace Sys2Proof.Machine

open Sys2Proof

/-! ### Which fields are read at all (R62, R183) -/

theorem exists_numberField {n : Nat} {b : Byte} : (∃ x, numberField n b = some x) ↔ b.toNat < n := by
  unfold numberField
  split <;> simp_all

theorem exists_optionalField {n : Nat} {b : Byte} : (∃ x, optionalField n b = some x) ↔ b = 255 ∨ b.toNat < n := by
  unfold optionalField
  split
  · next h => exact ⟨fun _ => .inl h, fun _ => ⟨_, rfl⟩⟩
  · next h => rw [or_iff_right h, ← exists_numberField]; simp

/-- A prerequisite is none, or another quest than the quest itself (R62). -/
theorem exists_prerequisiteField {q : Fin 16} {b : Byte} :
    (∃ x, prerequisiteField q b = some x) ↔ b = 255 ∨ (b.toNat < 16 ∧ b.toNat ≠ q.val) := by
  have read := exists_optionalField (n := 16) (b := b)
  unfold prerequisiteField
  by_cases marker : b = 255
  · simp only [optionalField, marker, if_true, true_or, iff_true]
    exact ⟨_, rfl⟩
  rw [or_iff_right marker] at read ⊢
  split
  · next k hk =>
    have value : k.val = b.toNat := by
      simpa only [marker, if_false, Option.map_some, Option.some.injEq] using optionalField_val hk
    rw [← value]
    split
    · next same => simp [same]
    · next other => simp [Fin.val_ne_of_ne other]
  · next hk => simpa only [marker, if_false, Option.map_none, reduceCtorEq] using optionalField_val hk
  · next hk => simp [← read, hk]

theorem prerequisiteField_val {q : Fin 16} {b : Byte} {x : Option (Fin 16)} (h : prerequisiteField q b = some x) :
    x.map Fin.val = if b = 255 then none else some b.toNat := by
  unfold prerequisiteField at h
  split at h
  · next k hk =>
    split at h
    · cases h
    · cases h
      exact optionalField_val hk
  · next hk =>
    cases h
    exact optionalField_val hk
  · cases h

theorem onTimeoutField_eq_some {b : Byte} {x : OnTimeout} :
    onTimeoutField b = some x ↔ b = 0 ∧ x = .fail ∨ b = 1 ∧ x = .event := by
  cases x <;> revert b <;> decide

/-- A start timer that is present has 1 to 65535 ticks (R62). -/
theorem startTimerField_eq_some {body : List Byte} {x : Option Half} : startTimerField body = some x ↔
    ((byteAt body 5).getLsbD 0 = true → halfAt body 6 ≠ 0) ∧
      x = if (byteAt body 5).getLsbD 0 then some (halfAt body 6) else none := by
  unfold startTimerField
  split
  · next present =>
    split
    · next zero => exact ⟨nofun, fun h => absurd zero (h.1 present)⟩
    · next ticks => exact ⟨fun h => ⟨fun _ => ticks, (Option.some.inj h).symm⟩, fun h => congrArg some h.2.symm⟩
  · next absent =>
    exact ⟨fun h => ⟨fun present => absurd present absent, (Option.some.inj h).symm⟩, fun h => congrArg some h.2.symm⟩

/-- A clamp that is present has its limits in order, and the initial value between them (R62). -/
theorem counterField_eq_some {body : List Byte} {c : Fin 4} {x : CounterDef} : counterField body c = some x ↔
    ((byteAt body 5).getLsbD (4 + c.val) = true →
      (halfAt body (10 + 6 * c.val)).toInt ≤ (halfAt body (12 + 6 * c.val)).toInt ∧
      (halfAt body (10 + 6 * c.val)).toInt ≤ (halfAt body (8 + 6 * c.val)).toInt ∧
      (halfAt body (8 + 6 * c.val)).toInt ≤ (halfAt body (12 + 6 * c.val)).toInt) ∧
    x = ⟨halfAt body (8 + 6 * c.val), if (byteAt body 5).getLsbD (4 + c.val) then
      some ⟨halfAt body (10 + 6 * c.val), halfAt body (12 + 6 * c.val)⟩ else none⟩ := by
  unfold counterField
  simp only []
  split
  · next present =>
    split
    · next ordered => exact ⟨fun h => ⟨fun _ => ordered, (Option.some.inj h).symm⟩, fun h => congrArg some h.2.symm⟩
    · next disordered => exact ⟨nofun, fun h => absurd (h.1 present) disordered⟩
  · next absent =>
    exact ⟨fun h => ⟨fun present => absurd present absent, (Option.some.inj h).symm⟩, fun h => congrArg some h.2.symm⟩

/-- A definition that a QUEST-WRITE body is read as is the one that the body carries (R62, chapter 11). -/
theorem QuestDef.isCarriedBy_of_parse {body : List Byte} {q : Fin 16} {d : QuestDef}
    (h : parseQuestWrite body = some (q, d)) : d.isCarriedBy body := by
  obtain ⟨-, -, final, prerequisite, owner, timeout, start, counters⟩ := parseQuestWrite_eq_some.mp h
  refine ⟨numberField_val final, prerequisiteField_val prerequisite, optionalField_val owner, ?_,
    (startTimerField_eq_some.mp start).2, fun c => (counterField_eq_some.mp (counters c)).2⟩
  rcases onTimeoutField_eq_some.mp timeout with ⟨hb, ht⟩ | ⟨hb, ht⟩ <;> simp [hb, ht]

/-- R62 refuses a body exactly when it is not read (R62, R183). -/
theorem questWriteLegal_iff (body : List Byte) : questWriteLegal body ↔ ∃ q d, parseQuestWrite body = some (q, d) := by
  constructor
  · rintro ⟨length, index, final, prerequisite, owner, timeout, start, clamps⟩
    obtain ⟨q, hq⟩ := exists_numberField.mpr (Nat.lt_succ_of_le index)
    obtain ⟨stage, hstage⟩ := exists_numberField.mpr (Nat.lt_succ_of_le final)
    obtain ⟨before, hbefore⟩ : ∃ x, prerequisiteField q (byteAt body 2) = some x := by
      refine exists_prerequisiteField.mpr (prerequisite.imp id fun ⟨range, other⟩ => ⟨Nat.lt_succ_of_le range, ?_⟩)
      rw [numberField_val hq]
      exact fun same => other (BitVec.eq_of_toNat_eq same)
    obtain ⟨seat, hseat⟩ := exists_optionalField.mpr (owner.imp id Nat.lt_succ_of_le)
    obtain ⟨action, haction⟩ : ∃ x, onTimeoutField (byteAt body 4) = some x := by
      rcases timeout with h | h
      · exact ⟨.fail, onTimeoutField_eq_some.mpr (.inl ⟨h, rfl⟩)⟩
      · exact ⟨.event, onTimeoutField_eq_some.mpr (.inr ⟨h, rfl⟩)⟩
    have counters (c : Fin 4) := counterField_eq_some.mpr ⟨clamps c, rfl⟩
    exact ⟨q, ⟨stage, before, seat, action, _, Vector.ofFn fun c => _⟩, parseQuestWrite_eq_some.mpr
      ⟨length, hq, hstage, hbefore, hseat, haction, startTimerField_eq_some.mpr ⟨start, rfl⟩, fun c => by
        simpa using counters c⟩⟩
  · rintro ⟨q, d, h⟩
    obtain ⟨length, index, final, prerequisite, owner, timeout, start, counters⟩ := parseQuestWrite_eq_some.mp h
    refine ⟨length, Nat.le_of_lt_succ (exists_numberField.mp ⟨_, index⟩),
      Nat.le_of_lt_succ (exists_numberField.mp ⟨_, final⟩), ?_,
      (exists_optionalField.mp ⟨_, owner⟩).imp id Nat.le_of_lt_succ,
      (onTimeoutField_eq_some.mp timeout).imp And.left And.left, (startTimerField_eq_some.mp start).1,
      fun c => (counterField_eq_some.mp (counters c)).1⟩
    refine (exists_prerequisiteField.mp ⟨_, prerequisite⟩).imp id fun ⟨range, other⟩ => ⟨Nat.le_of_lt_succ range, ?_⟩
    rw [numberField_val index] at other
    exact fun same => other (congrArg BitVec.toNat same)

/-! ### QUEST-WRITE -/

section Served

variable {s t : State} {body : List Byte} {reply : Reply}

/-- The item in flight is nothing to a QUEST-WRITE. -/
theorem questWriteItem_take (body : List Byte) (s : State) (w : WorkItem) :
    questWriteItem body (s.take w) = ((questWriteItem body s).1.take w, (questWriteItem body s).2) := by
  have quest (q : Fin 16) : (s.take w).quest q = s.quest q := rfl
  unfold questWriteItem
  split
  · rfl
  · rw [quest]
    split <;> rfl

theorem exec_questWrite_served (hs : s.serving 0x10 body) (h : questWriteItem body s = (t, reply))
    (ht : t.engine.inFlight = s.engine.inFlight) : exec (.questWrite body) s = .next (t.withHandler (.reply reply)) :=
  congrArg _ (serveItem_of_serving hs (ht.trans (State.inFlight_of_serving hs)) (by rw [questWriteItem_take, h]))

/-- A legal body of a quest that is not ACTIVE (R62). -/
theorem exec_questWrite_loads (hs : s.serving 0x10 body) {q : Fin 16} {d : QuestDef}
    (hd : parseQuestWrite body = some (q, d)) (inactive : (s.quest q).state ≠ .active) :
    exec (.questWrite body) s =
      .next (((s.withQuest q (Quest.loaded d)).withTimer q ⟨false, 0⟩).replying 0x10 .ok []) :=
  exec_questWrite_served hs (by simp only [questWriteItem, hd, inactive, if_false, Reply.done]) rfl

end Served

/-- Settles O35: the outcomes of the item, with the body read as R62 says. -/
theorem questWriteLoadsTheQuest : Obligations.QuestWriteLoadsTheQuest := by
  intro s body hs
  refine ⟨fun illegal => ?_, fun legal q hq => ?_⟩
  · have unread : parseQuestWrite body = none := Option.eq_none_iff_forall_ne_some.mpr fun x hx =>
      illegal ((questWriteLegal_iff body).mpr ⟨x.1, x.2, hx⟩)
    exact exec_questWrite_served hs (by simp only [questWriteItem, unread, Reply.invalid]) rfl
  obtain ⟨k, d, hd⟩ := (questWriteLegal_iff body).mp legal
  obtain rfl : k = q := Fin.ext ((numberField_val (parseQuestWrite_eq_some.mp hd).2.1).trans hq.symm)
  refine ⟨fun active => ?_, fun inactive => ⟨d, QuestDef.isCarriedBy_of_parse hd, exec_questWrite_loads hs hd inactive⟩⟩
  exact exec_questWrite_served hs (by simp only [questWriteItem, hd, active, if_true, Reply.busy]) rfl

/-! ### QUEST-START and QUEST-ABORT -/

section Activation

variable (s : State) (q : Fin 16)

/-- The quest made ACTIVE, at stage 0 with initial counters and flags 0; its timer is another matter (R63). -/
def State.madeActive : State :=
  s.withQuest q { definition := (s.quest q).definition, state := .active, stage := 0,
                  counters := (s.quest q).definition.counters.map (·.initial),
                  flags := ⟨false, false, false, false, false⟩, endReason := .none }

theorem State.activate_of_no_timer (h : (s.quest q).definition.startTimer = none) : s.activate q = s.madeActive q := by
  simp only [State.activate, h]
  rfl

theorem State.activate_of_timer {ticks : Half} (h : (s.quest q).definition.startTimer = some ticks) :
    s.activate q = (s.madeActive q).startTimer q ticks := by
  simp only [State.activate, h]
  rfl

theorem State.activate_take (w : WorkItem) : (s.take w).activate q = (s.activate q).take w := by
  have quest : (s.take w).quest q = s.quest q := rfl
  cases h : (s.quest q).definition.startTimer with
  | none =>
    rw [s.activate_of_no_timer q h, State.activate_of_no_timer _ q (by rw [quest, h])]
    rfl
  | some ticks =>
    rw [s.activate_of_timer q h, State.activate_of_timer _ q (by rw [quest, h])]
    rfl

theorem State.activate_inFlight : (s.activate q).engine.inFlight = s.engine.inFlight := by
  cases h : (s.quest q).definition.startTimer with
  | none =>
    rw [s.activate_of_no_timer q h]
    rfl
  | some ticks =>
    rw [s.activate_of_timer q h]
    rfl

/-- The prerequisite is met when there is none or its quest is COMPLETE (R63, R68). -/
theorem State.prerequisiteMet_iff (d : QuestDef) :
    s.prerequisiteMet d = true ↔ ∀ k, d.prerequisite = some k → (s.quest k).state = .complete := by
  cases h : d.prerequisite with
  | none => simp [State.prerequisiteMet, h]
  | some k => simp [State.prerequisiteMet, h]

theorem State.prerequisiteMet_eq_false {d : QuestDef} {k : Fin 16} (hk : d.prerequisite = some k)
    (h : (s.quest k).state ≠ .complete) : s.prerequisiteMet d = false := by
  simp [State.prerequisiteMet, hk, h]

end Activation

/-- The item in flight is nothing to a QUEST-START. -/
theorem questStartItem_take (body : List Byte) (s : State) (w : WorkItem) :
    questStartItem body (s.take w) = ((questStartItem body s).1.take w, (questStartItem body s).2) := by
  have quest (q : Fin 16) : (s.take w).quest q = s.quest q := rfl
  have met (d : QuestDef) : (s.take w).prerequisiteMet d = s.prerequisiteMet d := rfl
  unfold questStartItem
  split
  · rfl
  · rw [quest, met, State.activate_take]
    split
    · rfl
    split
    · rfl
    split <;> rfl

theorem questAbortItem_take (body : List Byte) (s : State) (w : WorkItem) :
    questAbortItem body (s.take w) = ((questAbortItem body s).1.take w, (questAbortItem body s).2) := by
  have quest (q : Fin 16) : (s.take w).quest q = s.quest q := rfl
  unfold questAbortItem
  split
  · rfl
  · rw [quest]
    split <;> rfl

/-- A body that is no index is not read (R183). -/
theorem oneNumber_eq_none {n : Nat} (hn : n ≤ 256) {body : List Byte} (h : ¬ ∃ x : Fin n, body = [byteOf x.val]) :
    oneNumber n body = none :=
  Option.eq_none_iff_forall_ne_some.mpr fun x hx => h ⟨x, (oneNumber_eq_some hn).mp hx⟩

/-- Settles O38: each outcome of the two items, in the order of their tests. -/
theorem questStartAndAbortDecideInOrder : Obligations.QuestStartAndAbortDecideInOrder := by
  refine ⟨fun s body hs => ?_, fun s body hs => ?_⟩
  · have served {t : State} {reply : Reply} (h : questStartItem body s = (t, reply))
        (ht : t.engine.inFlight = s.engine.inFlight) : exec (.questStart body) s = .next (t.withHandler (.reply reply)) :=
      congrArg _ (serveItem_of_serving hs (ht.trans (State.inFlight_of_serving hs)) (by rw [questStartItem_take, h]))
    refine ⟨fun bad => served (by simp only [questStartItem, oneNumber_eq_none (by decide) bad, Reply.invalid]) rfl,
      fun q hb => ?_⟩
    have read : oneNumber 16 body = some q := (oneNumber_eq_some (by decide)).mpr hb
    refine ⟨fun active => ?_, fun other => ?_, fun k loaded before unmet => ?_, fun loaded met => ?_⟩
    · exact served (by simp only [questStartItem, read, active, if_true, Reply.busy]) rfl
    · refine served (t := s) (reply := Reply.invalid 0x12) ?_ rfl
      rcases other with h | h | h <;> simp [questStartItem, read, h]
    · refine served (t := s) (reply := Reply.invalid 0x12) ?_ rfl
      simp [questStartItem, read, loaded, s.prerequisiteMet_eq_false before unmet]
    · have starts : exec (.questStart body) s = .next ((s.activate q).replying 0x12 .ok []) :=
        served (by simp [questStartItem, read, loaded, (s.prerequisiteMet_iff _).mpr met, Reply.done]) (s.activate_inFlight q)
      refine ⟨s.madeActive q, rfl, fun timer => ?_, fun ticks timer => ?_⟩
      · rw [starts, s.activate_of_no_timer q timer]
      · rw [starts, s.activate_of_timer q timer]
        rfl
  · have served {t : State} {reply : Reply} (h : questAbortItem body s = (t, reply))
        (ht : t.engine.inFlight = s.engine.inFlight) : exec (.questAbort body) s = .next (t.withHandler (.reply reply)) :=
      congrArg _ (serveItem_of_serving hs (ht.trans (State.inFlight_of_serving hs)) (by rw [questAbortItem_take, h]))
    refine ⟨fun q hb active => ?_, fun none => ?_⟩
    · have read : oneNumber 16 body = some q := (oneNumber_eq_some (by decide)).mpr hb
      rw [← State.endQuest_eq]
      exact served (by simp only [questAbortItem, read, active, if_true, Reply.done]) rfl
    · refine served (t := s) (reply := Reply.invalid 0x13) ?_ rfl
      cases read : oneNumber 16 body with
      | none => simp only [questAbortItem, read]
      | some q =>
        have inactive : (s.quest q).state ≠ .active := fun active =>
          none ⟨q, (oneNumber_eq_some (by decide)).mp read, active⟩
        simp only [questAbortItem, read, inactive, if_false]

/-! ### The tick -/

/-- A tick brings this timer to 0 (R75). -/
def Timer.due (t : Timer) : Bool := t.running && t.remaining.toNat ≤ 1

/-- The timer behind a tick (R75). -/
def Timer.ticked (t : Timer) : Timer :=
  if t.due then ⟨false, 0⟩ else if t.running then ⟨true, t.remaining - 1⟩ else t

section Ticked

variable {t : Timer}

theorem Timer.ticked_of_stopped (h : t.running = false) : t.due = false ∧ t.ticked = t := by
  simp [Timer.ticked, Timer.due, h]

theorem Timer.ticked_of_more (runs : t.running = true) (more : 1 < t.remaining.toNat) :
    t.due = false ∧ t.ticked = ⟨true, t.remaining - 1⟩ := by
  simp [Timer.ticked, Timer.due, runs, more]

theorem Timer.ticked_of_last (runs : t.running = true) (last : t.remaining.toNat ≤ 1) :
    t.due = true ∧ t.ticked = ⟨false, 0⟩ := by
  simp [Timer.ticked, Timer.due, runs, last]

end Ticked

/-- All that the tick's work on one timer does (R75). -/
theorem State.tickTimer_eq (s : State) (q : Fin 16) :
    s.tickTimer q = (s.withTimer q s.timers[q].ticked).withEngine
      { s.engine with expiry := s.engine.expiry ++ [q].filter fun k => s.timers[k].due } := by
  unfold State.tickTimer
  simp only [List.filter_singleton]
  split
  · next runs =>
    split
    · next last =>
      obtain ⟨due, ticked⟩ := Timer.ticked_of_last runs last
      rw [due, ticked]
      rfl
    · next more =>
      obtain ⟨waits, ticked⟩ := Timer.ticked_of_more runs (Nat.lt_of_not_le more)
      rw [waits, ticked, cond_false, List.append_nil]
      rfl
  · next stopped =>
    obtain ⟨waits, ticked⟩ := Timer.ticked_of_stopped (Bool.eq_false_iff.mpr stopped)
    have same : s.withTimer q s.timers[q] = s := by simp [State.withTimer, State.withTimers]
    rw [waits, ticked, cond_false, List.append_nil, same]
    rfl

/-- All that the tick's work on the timers of a list of quests does (R75). -/
theorem State.tickAll_eq (l : List (Fin 16)) (s : State) (hl : l.Nodup) :
    ∃ timers : Vector Timer 16, (∀ q : Fin 16, timers[q] = if q ∈ l then s.timers[q].ticked else s.timers[q]) ∧
      s.tickAll l = (s.withTimers timers).withEngine
        { s.engine with expiry := s.engine.expiry ++ l.filter fun q => s.timers[q].due } := by
  induction l generalizing s with
  | nil => exact ⟨s.timers, by simp, by simp [State.tickAll]; rfl⟩
  | cons k rest ih =>
    obtain ⟨first, distinct⟩ := List.nodup_cons.mp hl
    obtain ⟨timers, each, all⟩ := ih (s.tickTimer k) distinct
    have own : (s.tickTimer k).timers[k] = s.timers[k].ticked := by
      rw [s.tickTimer_eq]
      exact s.withTimer_timer_self k _
    have others (q : Fin 16) (hq : q ≠ k) : (s.tickTimer k).timers[q] = s.timers[q] := by
      rw [s.tickTimer_eq]
      exact s.withTimer_timer_ne _ hq
    refine ⟨timers, fun q => ?_, ?_⟩
    · rw [each]
      by_cases hq : q = k
      · subst hq
        rw [if_neg first, own, if_pos List.mem_cons_self]
      · simp only [others q hq, List.mem_cons, hq, false_or]
    · have later : (rest.filter fun q => (s.tickTimer k).timers[q].due) = rest.filter fun q => s.timers[q].due := by
        refine List.filter_congr fun q hq => ?_
        rw [others q fun e => first (e ▸ hq)]
      rw [State.tickAll, all, later, s.tickTimer_eq]
      simp only [State.withEngine_engine, List.append_assoc, ← List.filter_append, List.singleton_append]
      rfl

/-- Settles O44: the tick's work on all sixteen timers, and on the one that QUEST_TIMER_EXPIRY names. -/
theorem tickLowersTheRunningTimers : Obligations.TickLowersTheRunningTimers := by
  intro s high
  have alive : s.alive = true := State.alive_of_high high
  refine ⟨fun hold => ⟨?_, fun q => ?_⟩, fun run => ⟨?_, fun q => ⟨fun last => ?_, fun waits => ?_⟩⟩⟩
  · simp [exec, execQuestTick, hold]
  · simp [exec, execQuestTimerExpiry, hold]
  · obtain ⟨timers, each, all⟩ := State.tickAll_eq (List.finRange 16) s (List.nodup_finRange 16)
    have ticked (q : Fin 16) : timers[q] = s.timers[q].ticked := by rw [each, if_pos (List.mem_finRange q)]
    have ticks : exec .questTick s = .next (s.tickAll (List.finRange 16)) := by
      simp [exec, execQuestTick, alive, run]
    refine ⟨_, ticks, by rw [all]; rfl, fun q stopped => ?_, fun q runs more => ?_, fun q runs last => ?_,
      by rw [all]; rfl⟩ <;>
      rw [all]
    · exact (ticked q).trans (Timer.ticked_of_stopped stopped).2
    · have lowered : timers[q] = ⟨true, s.timers[q].remaining - 1⟩ := (ticked q).trans (Timer.ticked_of_more runs more).2
      refine ⟨congrArg Timer.running lowered, ?_⟩
      refine (congrArg (fun t => t.remaining.toNat + 1) lowered).trans ?_
      simp only []
      bv_omega
    · exact (ticked q).trans (Timer.ticked_of_last runs (Nat.le_of_eq last)).2
  · have runs : s.timers[q].running = true := by rw [last]
    have ends : s.timers[q].remaining.toNat ≤ 1 := by rw [last]; decide
    obtain ⟨due, ticked⟩ := Timer.ticked_of_last runs ends
    have ticks : exec (.questTimerExpiry q) s = .next (s.tickTimer q) := by
      refine congrArg _ (if_pos ?_)
      rw [alive, run, runs, decide_eq_true ends]
      rfl
    rw [ticks, s.tickTimer_eq, ticked, List.filter_singleton, due]
    rfl
  · refine congrArg _ (if_neg ?_)
    simp only [Bool.and_eq_true, decide_eq_true_eq, not_and]
    rintro ⟨-, runs⟩
    exact Nat.not_le.mpr (waits.resolve_left (Bool.not_eq_false _ ▸ runs))

end Sys2Proof.Machine
end

section
/-! The actions of a fired rule: their order and decisions (R65, R114, R115, R131, R134), and the turn, stage, quest start,
signal and rule actions (R66 to R70, R76, R77, R97, R98, R118, R132). -/

namespace Sys2Proof.Machine

open Sys2Proof

/-! ### The decisions at an action -/

/-- The kinds that are home-quest actions by themselves (R65). -/
theorem ActionKind.needsHome_iff (k : ActionKind) : k.needsHome = true ↔
    (∃ op c o, k = .count op c o) ∨ (∃ c, k = .setIf c) ∨ k = .stageAdvance ∨ (∃ st, k = .stageSet st) ∨
      k = .questComplete ∨ k = .questFail ∨ (∃ ticks, k = .timerStart ticks) ∨ k = .timerStop := by
  cases k <;> simp [ActionKind.needsHome]

theorem Action.isHome_iff (a : Action) : a.isHome = true ↔ a.condition ≠ 0 ∨ a.kind.needsHome = true := by
  simp [Action.isHome, or_comm]

theorem Action.isSetIf_iff (a : Action) : a.isSetIf = true ↔ ∃ c, a.kind = .setIf c := by
  cases hk : a.kind <;> simp [Action.isSetIf, hk]

section Reached

variable {asides : List Aside} {s now t : State} {ev : Event} {rule : Fin 256} {home : Option (Fin 16)} {n : Nat}
  {a : Action} {q : Fin 16}

/-- An action that ends with a next state is followed by the rest of the list (R114). -/
theorem runActions_done (hn : now = during asides (.action rule n) s) (h : runAction now ev home a = .done t)
    (rest : List Action) :
    runActions asides ev rule home n s (a :: rest) = runActions asides ev rule home (n + 1) t rest := by
  subst hn
  rw [runActions, h]

/-- An action that faults abandons the rest of the list (R115, R134). -/
theorem runActions_fault (hn : now = during asides (.action rule n) s) {code : FaultCode}
    (h : runAction now ev home a = .fault code) (rest : List Action) :
    runActions asides ev rule home n s (a :: rest) = now.raise (.ruleFault rule n code) := by
  subst hn
  rw [runActions, h]

/-- A home-quest action on an ACTIVE home quest whose condition holds, and a SET-IF whatever its condition, is performed; so
is every other action (R131). -/
theorem runAction_eq_perform (h : a.isHome = false ∨ ∃ q, home = some q ∧ (s.quest q).state = .active ∧
    (condHolds a.condition (s.quest q).flags = true ∨ ∃ c, a.kind = .setIf c)) :
    runAction s ev home a = performAction s ev home a := by
  cases ha : a.isHome with
  | false => exact runAction_free s ev home a ha
  | true =>
    obtain ⟨q, rfl, active, holds⟩ := h.resolve_left (by simp [ha])
    have passes : (a.isSetIf || condHolds a.condition (s.quest q).flags) = true := by
      rw [Bool.or_eq_true, Action.isSetIf_iff]
      exact holds.symm
    rcases runAction_home s ev q a ha with ⟨idle, -⟩ | ⟨-, other, -⟩ | ⟨-, hr⟩
    · simp [active] at idle
    · exact absurd active other
    · rw [hr, if_pos passes]

/-- A home-quest action on an IDLE home quest faults (R65). -/
theorem runAction_idle (ha : a.isHome = true) (idle : (s.quest q).state = .idle) :
    runAction s ev (some q) a = .fault .questUndefined := by
  rcases runAction_home s ev q a ha with ⟨-, hr⟩ | ⟨other, -⟩ | ⟨active, -⟩
  · exact hr
  · exact absurd idle other
  · simp [idle] at active

/-- A home-quest action on a LOADED or ended home quest is skipped, as is one whose condition fails (R131). -/
theorem runAction_skipped (ha : a.isHome = true) (h : (s.quest q).state = .loaded ∨ (s.quest q).state = .complete ∨
    (s.quest q).state = .failed ∨ ((s.quest q).state = .active ∧ condHolds a.condition (s.quest q).flags = false ∧
      ∀ c, a.kind ≠ .setIf c)) : runAction s ev (some q) a = .done s := by
  rcases runAction_home s ev q a ha with ⟨idle, -⟩ | ⟨-, -, hr⟩ | ⟨active, hr⟩
  · simp [idle] at h
  · exact hr
  · obtain ⟨-, fails, other⟩ : (s.quest q).state = .active ∧ condHolds a.condition (s.quest q).flags = false ∧
        ∀ c, a.kind ≠ .setIf c := by simpa [active] using h
    have stops : ¬ (a.isSetIf || condHolds a.condition (s.quest q).flags) = true := by
      rw [fails, Bool.or_false, Action.isSetIf_iff]
      exact fun ⟨c, hc⟩ => other c hc
    rw [hr, if_neg stops]

end Reached

/-- Settles O48: a list of actions is its first one's decision and then the rest; the four actions on the home quest are
written out. -/
theorem actionsRunInOrderOnTheirHomeQuest : Obligations.ActionsRunInOrderOnTheirHomeQuest := by
  intro asides s now ev rule home n a rest hn
  refine ⟨rfl, ?_, fun reached => ⟨fun t ht => ?_, fun code hf => ?_⟩, ?_⟩
  · rw [Action.isHome_iff, ActionKind.needsHome_iff]
  · exact runActions_done hn ((runAction_eq_perform reached).trans ht) rest
  · exact runActions_fault hn ((runAction_eq_perform reached).trans hf) rest
  rintro q rfl
  refine ⟨fun ha idle => runActions_fault hn (runAction_idle ha idle) rest,
    fun ha skipped => runActions_done hn (runAction_skipped ha skipped) rest, fun ticks hk => ?_, fun hk => ?_,
    fun hk => ?_, fun hk => ?_⟩ <;>
  · simp only [performAction, hk]
    rfl

/-! ### The actions themselves -/

section Perform

variable (s : State) (q k : Fin 16)

/-- The next seat lies within the seats in play (R97). -/
theorem nextSeat_val {g : Engine} (h1 : 1 ≤ g.seatCount) (h6 : g.seatCount ≤ 6) :
    (nextSeat g).val = (g.turn.val + 1) % g.seatCount :=
  Nat.mod_eq_of_lt ((Nat.mod_lt _ h1).trans_le h6)

/-- A seat is lowered to the last seat in play (R98). -/
theorem clampSeat_val {g : Engine} (h1 : 1 ≤ g.seatCount) (h6 : g.seatCount ≤ 6) (n : Fin 6) :
    (clampSeat g n).val = min n.val (g.seatCount - 1) := by
  unfold clampSeat
  split
  · omega
  · simp only []
    omega

theorem performStageAdvance_below (next : Fin 16) (below : (s.quest q).stage < (s.quest q).definition.finalStage)
    (hnext : next.val = (s.quest q).stage.val + 1) :
    performStageAdvance s q = (s.withQuest q { s.quest q with stage := next }).notify (.stage q next) := by
  have up : (⟨(s.quest q).stage.val + 1, hnext ▸ next.isLt⟩ : Fin 16) = next := Fin.ext hnext.symm
  unfold performStageAdvance
  simp only []
  rw [dif_pos (show (s.quest q).stage.val < (s.quest q).definition.finalStage.val from below), up]

theorem performStageAdvance_final (final : (s.quest q).definition.finalStage ≤ (s.quest q).stage) :
    performStageAdvance s q = (s.endQuest q .complete .completed).notify (.complete q) :=
  dif_neg (show ¬ (s.quest q).stage.val < (s.quest q).definition.finalStage.val from Nat.not_lt.mpr final)

/-- STAGE-SET clamps to the final stage (R67). -/
theorem performStageSet_eq (st : Fin 16) : performStageSet s q st =
    (s.withQuest q { s.quest q with stage := min st (s.quest q).definition.finalStage }).notify
      (.stage q (min st (s.quest q).definition.finalStage)) := by
  have clamped : (if st.val ≤ (s.quest q).definition.finalStage.val then st else (s.quest q).definition.finalStage) =
      min st (s.quest q).definition.finalStage := (min_def st _).symm
  simp only [performStageSet, clamped]

/-- A LOADED quest whose prerequisite is met starts with a notice (R68). -/
theorem performQuestStart_met (loaded : (s.quest k).state = .loaded)
    (met : ∀ p, (s.quest k).definition.prerequisite = some p → (s.quest p).state = .complete) :
    performQuestStart s k = .done ((s.activate k).notify (.questStarted k)) := by
  simp only [performQuestStart, loaded, (s.prerequisiteMet_iff _).mpr met, if_true]

theorem performQuestStart_unmet {p : Fin 16} (loaded : (s.quest k).state = .loaded)
    (before : (s.quest k).definition.prerequisite = some p) (unmet : (s.quest p).state ≠ .complete) :
    performQuestStart s k = .fault .prereqUnmet := by
  simp [performQuestStart, loaded, s.prerequisiteMet_eq_false before unmet]

theorem enabledRule_eq (r : RuleState) : enabledRule r = if r = .disabled ∨ r = .spent then .enabled else r := by
  cases r <;> rfl

theorem disabledRule_eq (r : RuleState) : disabledRule r = if r = .enabled ∨ r = .spent then .disabled else r := by
  cases r <;> rfl

end Perform

/-- Settles O51: each action's performance, by the lemma that writes it out. -/
theorem turnStageStartSignalAndRuleActions : Obligations.TurnStageStartSignalAndRuleActions := by
  intro s ev home cond
  refine ⟨fun h1 h6 seat => ?_, fun q st => ⟨fun next below hnext => ?_, fun final => ?_, ?_⟩, fun k => ?_, fun _ => rfl,
    fun i => ⟨?_, ?_⟩⟩
  · exact ⟨nextSeat s.engine, clampSeat s.engine seat, rfl, nextSeat_val h1 h6, rfl, clampSeat_val h1 h6 seat⟩
  · exact congrArg ActionResult.done (performStageAdvance_below s q next below hnext)
  · exact congrArg ActionResult.done (performStageAdvance_final s q final)
  · exact congrArg ActionResult.done (performStageSet_eq s q st)
  · have performs : performAction s ev home ⟨.questStart k, cond⟩ = performQuestStart s k := rfl
    rw [performs]
    refine ⟨fun idle => ?_, fun active => ?_, fun ended => ?_, fun p loaded before unmet => ?_, fun loaded met => ?_⟩
    · simp only [performQuestStart, idle]
    · simp only [performQuestStart, active]
    · rcases ended with h | h <;> simp only [performQuestStart, h]
    · exact performQuestStart_unmet s k loaded before unmet
    · rw [performQuestStart_met s k loaded met]
      refine ⟨s.madeActive k, rfl, fun timer => ?_, fun ticks timer => ?_⟩
      · rw [s.activate_of_no_timer k timer]
      · rw [s.activate_of_timer k timer]
        rfl
  · rw [← enabledRule_eq]
    rfl
  · rw [← disabledRule_eq]
    rfl

end Sys2Proof.Machine
end

section
/-! QUEST-READ: the 40 bytes of a quest record, field by field, and as they are behind a QUEST-WRITE (R64, R185). -/

namespace Sys2Proof.Machine

open Sys2Proof

/-! ### The packed bytes -/

/-- A byte of a number 0 to 15 and four bits (bytes 0 and 3 of R185). -/
def nibbleAndBits (n : Fin 16) (b4 b5 b6 b7 : Bool) : Nat := n.val + bitAt 4 b4 + bitAt 5 b5 + bitAt 6 b6 + bitAt 7 b7

theorem nibbleAndBits_lt (n : Fin 16) (b4 b5 b6 b7 : Bool) : nibbleAndBits n b4 b5 b6 b7 < 256 := by
  revert n b4 b5 b6 b7
  decide

theorem nibbleAndBits_low (n : Fin 16) (b4 b5 b6 b7 : Bool) : (byteOf (nibbleAndBits n b4 b5 b6 b7)).toNat % 16 = n.val := by
  revert n b4 b5 b6 b7
  decide

theorem nibbleAndBits_bits (n : Fin 16) (b4 b5 b6 b7 : Bool) :
    (byteOf (nibbleAndBits n b4 b5 b6 b7)).getLsbD 4 = b4 ∧ (byteOf (nibbleAndBits n b4 b5 b6 b7)).getLsbD 5 = b5 ∧
      (byteOf (nibbleAndBits n b4 b5 b6 b7)).getLsbD 6 = b6 ∧ (byteOf (nibbleAndBits n b4 b5 b6 b7)).getLsbD 7 = b7 := by
  revert n b4 b5 b6 b7
  decide

/-- The flags in bits 0 to 4 and a code 0 to 7 above them (byte 2 of R185). -/
theorem flagBits_byte (f : Flags) (code : Fin 8) :
    (byteOf (flagBits f + 32 * code.val)).getLsbD 0 = f.n ∧ (byteOf (flagBits f + 32 * code.val)).getLsbD 1 = f.z ∧
      (byteOf (flagBits f + 32 * code.val)).getLsbD 2 = f.v ∧ (byteOf (flagBits f + 32 * code.val)).getLsbD 3 = f.c ∧
      (byteOf (flagBits f + 32 * code.val)).getLsbD 4 = f.k ∧
      (byteOf (flagBits f + 32 * code.val)).toNat / 32 = code.val := by
  obtain ⟨n, z, v, c, k⟩ := f
  revert n z v c k code
  decide

/-- The prerequisite in bits 0 to 4 and the owner above them (byte 1 of R185). -/
theorem questByte1_fields (d : QuestDef) :
    ((byteOf (questByte1 d)).getLsbD 4 = true ↔ d.prerequisite ≠ none) ∧
      (byteOf (questByte1 d)).toNat % 16 = (d.prerequisite.map Fin.val).getD 0 ∧
      (byteOf (questByte1 d)).toNat / 32 = (d.owner.map Fin.val).getD 7 := by
  unfold questByte1
  generalize d.prerequisite = prerequisite
  generalize d.owner = owner
  cases prerequisite with
  | none =>
    cases owner with
    | none => decide
    | some o => revert o; decide
  | some k =>
    cases owner with
    | none => revert k; decide
    | some o => revert k o; decide

theorem questByte1_eq (d : QuestDef) :
    questByte1 d = (d.prerequisite.map Fin.val).elim 0 (· + 16) + 32 * (d.owner.map Fin.val).getD 7 := by
  unfold questByte1
  cases d.prerequisite <;> cases d.owner <;> rfl

theorem questByte1_lt (d : QuestDef) : questByte1 d < 256 := by
  unfold questByte1
  cases d.prerequisite <;> cases d.owner <;> simp only [] <;> omega

/-! ### The two-byte fields -/

/-- The limits of a clamp as QUEST-READ gives them, 0 where it is absent (R185). -/
def CounterDef.lo (c : CounterDef) : Half := (c.clamp.map Clamp.lo).getD 0

def CounterDef.hi (c : CounterDef) : Half := (c.clamp.map Clamp.hi).getD 0

theorem counterDefBytes_eq (c : CounterDef) : counterDefBytes c = [c.initial, c.lo, c.hi].flatMap halfBytes := by
  obtain ⟨initial, clamp⟩ := c
  cases clamp with
  | none =>
    have zero : halfBytes 0#16 = [0#8, 0#8] := by decide
    simp [counterDefBytes, CounterDef.lo, CounterDef.hi, zero]
  | some limits => rfl

/-- The two-byte fields of R185, in their order from byte 4 on. -/
def questHalves (x : Quest) (t : Timer) : List Half :=
  let d := x.definition
  [d.startTimer.getD 0, d.counters[0].initial, d.counters[0].lo, d.counters[0].hi, d.counters[1].initial, d.counters[1].lo,
   d.counters[1].hi, d.counters[2].initial, d.counters[2].lo, d.counters[2].hi, d.counters[3].initial, d.counters[3].lo,
   d.counters[3].hi, x.counters[0], x.counters[1], x.counters[2], x.counters[3], t.remaining]

theorem questReadContent_eq (x : Quest) (t : Timer) (pending : Bool) : questReadContent x t pending =
    byteOf (nibbleAndBits x.definition.finalStage (x.definition.onTimeout == .event) x.definition.startTimer.isSome t.running
      pending) :: byteOf (questByte1 x.definition) ::
    byteOf (flagBits x.flags + 32 * stateReasonCode x.state x.endReason) ::
    byteOf (nibbleAndBits x.stage (clampBit x.definition 0) (clampBit x.definition 1) (clampBit x.definition 2)
      (clampBit x.definition 3)) :: (questHalves x t).flatMap halfBytes := by
  simp only [questReadContent, counterDefBytes_eq]
  rfl

theorem length_flatMap_halfBytes (halves : List Half) : (halves.flatMap halfBytes).length = 2 * halves.length := by
  simp [List.length_flatMap, halfBytes, Nat.mul_comm]

/-- A two-byte field of a list of such fields (R183). -/
theorem halfAt_flatMap (halves : List Half) (n : Nat) : halfAt (halves.flatMap halfBytes) (2 * n) = halves.getD n 0 := by
  induction halves generalizing n with
  | nil =>
    have zero : bigEndian 0#8 0#8 = 0#16 := by decide
    simp [halfAt, byteAt, zero]
  | cons w rest ih =>
    cases n with
    | zero => exact bigEndian_hiByte_loByte w
    | succ n => exact ih n

theorem halfAt_cons (b : Byte) (bytes : List Byte) (n : Nat) : halfAt (b :: bytes) (n + 1) = halfAt bytes n := rfl

section Content

variable (x : Quest) (t : Timer) (pending : Bool)

theorem questReadContent_length : (questReadContent x t pending).length = 40 := by
  rw [questReadContent_eq]
  simp only [List.length_cons, length_flatMap_halfBytes]
  rfl

theorem questReadContent_half (n : Nat) : halfAt (questReadContent x t pending) (4 + 2 * n) = (questHalves x t).getD n 0 := by
  rw [questReadContent_eq, show 4 + 2 * n = 2 * n + 1 + 1 + 1 + 1 by omega]
  simp only [halfAt_cons, halfAt_flatMap]

/-- The definition, and the counters' values, of one counter. -/
theorem questReadContent_counter (k : Fin 4) :
    halfAt (questReadContent x t pending) (6 + 6 * k.val) = (x.definition.counters[k]).initial ∧
      halfAt (questReadContent x t pending) (8 + 6 * k.val) = (x.definition.counters[k]).lo ∧
      halfAt (questReadContent x t pending) (10 + 6 * k.val) = (x.definition.counters[k]).hi ∧
      halfAt (questReadContent x t pending) (30 + 2 * k.val) = x.counters[k] := by
  have half := questReadContent_half x t pending
  match k with
  | 0 => exact ⟨half 1, half 2, half 3, half 13⟩
  | 1 => exact ⟨half 4, half 5, half 6, half 14⟩
  | 2 => exact ⟨half 7, half 8, half 9, half 15⟩
  | 3 => exact ⟨half 10, half 11, half 12, half 16⟩

theorem questReadContent_byte0 : byteAt (questReadContent x t pending) 0 = byteOf (nibbleAndBits x.definition.finalStage
    (x.definition.onTimeout == .event) x.definition.startTimer.isSome t.running pending) := by
  rw [questReadContent_eq]
  rfl

theorem questReadContent_byte1 : byteAt (questReadContent x t pending) 1 = byteOf (questByte1 x.definition) := by
  rw [questReadContent_eq]
  rfl

theorem questReadContent_byte2 :
    byteAt (questReadContent x t pending) 2 = byteOf (flagBits x.flags + 32 * stateReasonCode x.state x.endReason) := by
  rw [questReadContent_eq]
  rfl

theorem questReadContent_byte3 : byteAt (questReadContent x t pending) 3 = byteOf (nibbleAndBits x.stage
    (clampBit x.definition 0) (clampBit x.definition 1) (clampBit x.definition 2) (clampBit x.definition 3)) := by
  rw [questReadContent_eq]
  rfl

theorem stateReasonCode_lt (st : QuestState) (reason : EndReason) : stateReasonCode st reason < 8 := by
  cases st <;> cases reason <;> decide

theorem clampBit_bits (k : Fin 4) :
    (byteAt (questReadContent x t pending) 3).getLsbD (4 + k.val) = (x.definition.counters[k]).clamp.isSome := by
  obtain ⟨b4, b5, b6, b7⟩ := nibbleAndBits_bits x.stage (clampBit x.definition 0) (clampBit x.definition 1)
    (clampBit x.definition 2) (clampBit x.definition 3)
  rw [questReadContent_byte3]
  match k with
  | 0 => exact b4
  | 1 => exact b5
  | 2 => exact b6
  | 3 => exact b7

end Content

/-- The seven pairings of state and end reason, with their codes (R185). -/
theorem stateReasonCode_mem {x : Quest} (h : x.reasonFits = true) :
    (x.state, x.endReason, stateReasonCode x.state x.endReason) ∈
      [(QuestState.idle, EndReason.none, 0), (.loaded, .none, 1), (.active, .none, 2), (.complete, .completed, 3),
       (.failed, .failedByRule, 4), (.failed, .timedOut, 5), (.failed, .aborted, 6)] := by
  unfold Quest.reasonFits at h
  revert h
  generalize x.state = st
  generalize x.endReason = reason
  cases st <;> cases reason <;> decide

/-! ### QUEST-READ -/

theorem exec_questRead_served {s : State} {q : Fin 16} (hs : s.serving 0x11 [byteOf q.val]) :
    exec (.questRead [byteOf q.val]) s =
      .next (s.replying 0x11 .ok (questReadContent (s.quest q) s.timers[q] (s.expiryPending q))) := by
  have read : oneNumber 16 [byteOf q.val] = some q := (oneNumber_eq_some (by decide)).mpr rfl
  exact congrArg _ (serveItem_unchanged hs (by simp only [questReadItem, read]; rfl))

/-- Settles O37: byte by byte, from the packed bytes and the two-byte fields of the content. -/
theorem questReadReportsTheRuntimePart : Obligations.QuestReadReportsTheRuntimePart := by
  intro s body hs
  refine ⟨?_, fun bad => ?_⟩
  · rintro q rfl fits
    refine ⟨_, exec_questRead_served hs, ?_⟩
    generalize s.timers[q] = timer
    have listed : s.expiryPending q = true ↔ q ∈ s.engine.expiry := by simp [State.expiryPending]
    revert listed
    generalize s.expiryPending q = pending
    intro listed
    generalize s.quest q = x at fits ⊢
    have half := questReadContent_half x timer pending
    have counter := questReadContent_counter x timer pending
    obtain ⟨n, z, v, c, k, code⟩ := flagBits_byte x.flags ⟨_, stateReasonCode_lt x.state x.endReason⟩
    obtain ⟨timeout, start, running, expiry⟩ := nibbleAndBits_bits x.definition.finalStage
      (x.definition.onTimeout == .event) x.definition.startTimer.isSome timer.running pending
    obtain ⟨prerequisite, before, owner⟩ := questByte1_fields x.definition
    simp only [questReadContent_byte0, questReadContent_byte1, questReadContent_byte2, nibbleAndBits_low, timeout, start,
      running, expiry, n, z, v, c, k, code, listed]
    refine ⟨questReadContent_length .., trivial, beq_iff_eq, Option.isSome_iff_ne_none, half 0, prerequisite, before, owner,
      fun k => ⟨?_, (counter k).1, (counter k).2.1, (counter k).2.2.1⟩, trivial, trivial, trivial, trivial, trivial, trivial,
      trivial, stateReasonCode_mem fits, ?_, fun k => (counter k).2.2.2, half 17⟩
    · rw [clampBit_bits, Option.isSome_iff_ne_none]
    · rw [questReadContent_byte3, nibbleAndBits_low]
  · have unread := oneNumber_eq_none (by decide) bad
    exact congrArg _ (serveItem_unchanged hs (by simp only [questReadItem, unread]; rfl))

/-! ### Behind a QUEST-WRITE -/

section Carried

variable {d : QuestDef} {b : List Byte}

/-- The definition that a body carries, as QUEST-READ gives it back (R62, R185). -/
theorem QuestDef.isCarriedBy.byte0 (h : d.isCarriedBy b) (timeout : byteAt b 4 = 0 ∨ byteAt b 4 = 1) :
    (byteOf (nibbleAndBits d.finalStage (d.onTimeout == .event) d.startTimer.isSome false false)).toNat =
      (byteAt b 1).toNat + 16 * (byteAt b 4).toNat + 32 * ((byteAt b 5).getLsbD 0).toNat := by
  obtain ⟨final, -, -, event, start, -⟩ := h
  rw [byteOf_toNat (nibbleAndBits_lt ..), nibbleAndBits, final]
  have b4 : bitAt 4 (d.onTimeout == .event) = 16 * (byteAt b 4).toNat := by
    rcases timeout with hb | hb
    · have : ¬ d.onTimeout = .event := by simp [event, hb]
      simp [bitAt, this, hb]
    · have : d.onTimeout = .event := event.mpr hb
      simp [bitAt, this, hb]
  have b5 : bitAt 5 d.startTimer.isSome = 32 * ((byteAt b 5).getLsbD 0).toNat := by
    rw [start]
    cases (byteAt b 5).getLsbD 0 <;> rfl
  rw [b4, b5]
  rfl

theorem QuestDef.isCarriedBy.byte1 (h : d.isCarriedBy b) : (byteOf (questByte1 d)).toNat =
    (if byteAt b 2 = 255 then 0 else (byteAt b 2).toNat + 16) +
      32 * (if byteAt b 3 = 255 then 7 else (byteAt b 3).toNat) := by
  obtain ⟨-, prerequisite, owner, -⟩ := h
  rw [byteOf_toNat (questByte1_lt d), questByte1_eq, prerequisite, owner]
  split_ifs <;> rfl

theorem QuestDef.isCarriedBy.clampBit (h : d.isCarriedBy b) (c : Fin 4) :
    clampBit d c = (byteAt b 5).getLsbD (4 + c.val) := by
  obtain ⟨-, -, -, -, -, counters⟩ := h
  rw [Machine.clampBit, counters c]
  cases (byteAt b 5).getLsbD (4 + c.val) <;> rfl

/-- Bits 4 to 7 of a byte, behind a stage of 0. -/
theorem nibbleAndBits_zero (b : Byte) :
    (byteOf (nibbleAndBits 0 (b.getLsbD 4) (b.getLsbD 5) (b.getLsbD 6) (b.getLsbD 7))).toNat = 16 * (b.toNat / 16) := by
  revert b
  decide

theorem QuestDef.isCarriedBy.byte3 (h : d.isCarriedBy b) :
    (byteOf (nibbleAndBits 0 (Machine.clampBit d 0) (Machine.clampBit d 1) (Machine.clampBit d 2)
      (Machine.clampBit d 3))).toNat = 16 * ((byteAt b 5).toNat / 16) := by
  rw [h.clampBit, h.clampBit, h.clampBit, h.clampBit]
  exact nibbleAndBits_zero _

theorem QuestDef.isCarriedBy.startTimer (h : d.isCarriedBy b) :
    d.startTimer.getD 0 = if (byteAt b 5).getLsbD 0 then halfAt b 6 else 0 := by
  obtain ⟨-, -, -, -, start, -⟩ := h
  rw [start]
  cases (byteAt b 5).getLsbD 0 <;> rfl

theorem QuestDef.isCarriedBy.counter (h : d.isCarriedBy b) (k : Fin 4) :
    (d.counters[k]).initial = halfAt b (8 + 6 * k.val) ∧
      (d.counters[k]).lo = (if (byteAt b 5).getLsbD (4 + k.val) then halfAt b (10 + 6 * k.val) else 0) ∧
      (d.counters[k]).hi = if (byteAt b 5).getLsbD (4 + k.val) then halfAt b (12 + 6 * k.val) else 0 := by
  obtain ⟨-, -, -, -, -, counters⟩ := h
  rw [counters k]
  cases (byteAt b 5).getLsbD (4 + k.val) <;> exact ⟨rfl, rfl, rfl⟩

end Carried

/-- Settles O36: the write leaves the definition that the body carries, and the read gives it back field by field. -/
theorem questReadReturnsTheDefinitionWritten : Obligations.QuestReadReturnsTheDefinitionWritten := by
  intro s t u b q hs legal hq inactive unlisted ht hu
  obtain ⟨k, d, hd⟩ := (questWriteLegal_iff b).mp legal
  obtain rfl : k = q := Fin.ext ((numberField_val (parseQuestWrite_eq_some.mp hd).2.1).trans hq.symm)
  have carried := QuestDef.isCarriedBy_of_parse hd
  obtain rfl := Host.Outcome.next.inj (ht.symm.trans (exec_questWrite_loads hs hd inactive))
  have serving : u.serving 0x11 [byteOf k.val] := by
    obtain ⟨high, idle, -⟩ := hs
    rw [hu]
    exact ⟨high, idle, .inl rfl⟩
  have quest : u.quest k = Quest.loaded d := by
    rw [hu]
    exact s.withQuest_quest_self k _
  have timer : u.timers[k] = ⟨false, 0⟩ := by
    rw [hu]
    exact State.withTimer_timer_self ..
  have pending : u.expiryPending k = false := by
    rw [hu]
    exact Bool.eq_false_iff.mpr fun h => unlisted (List.contains_iff_mem.mp h)
  have read := exec_questRead_served serving
  rw [quest, timer, pending] at read
  have half := questReadContent_half (Quest.loaded d) ⟨false, 0⟩ false
  have counter := questReadContent_counter (Quest.loaded d) ⟨false, 0⟩ false
  obtain ⟨-, -, -, -, -, timeout, -⟩ := legal
  refine ⟨_, read, questReadContent_length .., ?_, ?_, ?_, ?_, ?_, fun n => ⟨?_, ?_, ?_, ?_⟩, half 17⟩
  · rw [questReadContent_byte0]
    exact carried.byte0 timeout
  · rw [questReadContent_byte1]
    exact carried.byte1
  · rw [questReadContent_byte2]
    rfl
  · rw [questReadContent_byte3]
    exact carried.byte3
  · exact (half 0).trans carried.startTimer
  · exact (counter n).1.trans (carried.counter n).1
  · exact (counter n).2.1.trans (carried.counter n).2.1
  · exact (counter n).2.2.1.trans (carried.counter n).2.2
  · refine (counter n).2.2.2.trans (Eq.trans ?_ (carried.counter n).1)
    simp [Quest.loaded, QuestDef.initials]

end Sys2Proof.Machine
end

section
/-! RULE-WRITE's load checks: the readers of a rule record's fields against the bytes' own reading (R101 to R104). -/

namespace Sys2Proof.Machine

open Sys2Proof

/-! ### What a field reader does -/

/-- A reader gives a value exactly where its bytes are legal, and then one that they spell. -/
def Reads {α : Type} (field : Option α) (legal : Prop) (spelled : α → Prop) : Prop :=
  ((∃ x, field = some x) ↔ legal) ∧ ∀ x, field = some x → spelled x

namespace Reads

variable {α β : Type} {field : Option α} {legal legal' : Prop} {spelled : α → Prop} {spelled' : β → Prop}

theorem of_some {x : α} (hl : legal) (hs : spelled x) : Reads (some x) legal spelled :=
  ⟨⟨fun _ => hl, fun _ => ⟨x, rfl⟩⟩, fun _ h => Option.some.inj h ▸ hs⟩

theorem of_none (hl : ¬ legal) : Reads none legal spelled := ⟨⟨nofun, fun h => absurd h hl⟩, nofun⟩

theorem of_dite {c : Prop} [Decidable c] {value : c → α} (hl : legal ↔ c) (hs : ∀ h, spelled (value h)) :
    Reads (if h : c then some (value h) else none) legal spelled := by
  by_cases h : c
  · rw [dif_pos h]
    exact of_some (hl.mpr h) (hs h)
  · rw [dif_neg h]
    exact of_none (mt hl.mp h)

theorem map {f : α → β} (h : Reads field legal spelled) (hl : legal' ↔ legal) (hs : ∀ x, spelled x → spelled' (f x)) :
    Reads (field.map f) legal' spelled' := by
  cases field with
  | none => exact of_none fun l => nomatch h.1.mpr (hl.mp l)
  | some x => exact of_some (hl.mpr (h.1.mp ⟨x, rfl⟩)) (hs x (h.2 x rfl))

theorem weaken {spelled' : α → Prop} (h : Reads field legal spelled) (hl : legal' ↔ legal)
    (hs : ∀ x, spelled x → spelled' x) : Reads field legal' spelled' :=
  ⟨h.1.trans hl.symm, fun x hx => hs x (h.2 x hx)⟩

/-- Two fields that are read one after the other. -/
theorem bind {γ : Type} {second : Option β} {legal₂ : Prop} {spelled₂ : β → Prop} {spelled' : γ → Prop} {f : α → β → γ}
    (h₁ : Reads field legal spelled) (h₂ : Reads second legal₂ spelled₂) (hl : legal' ↔ legal ∧ legal₂)
    (hs : ∀ x y, spelled x → spelled₂ y → spelled' (f x y)) :
    Reads (field.bind fun x => second.map fun y => f x y) legal' spelled' := by
  cases field with
  | none => exact of_none fun l => nomatch h₁.1.mpr (hl.mp l).1
  | some x => exact h₂.map (hl.trans (and_iff_right (h₁.1.mp ⟨x, rfl⟩))) fun y => hs x y (h₁.2 x rfl)

theorem mapM {P : α → Prop} {Q : α → β → Prop} {f : α → Option β} (h : ∀ n, Reads (f n) (P n) (Q n)) (l : List α) :
    Reads (l.mapM f) (∀ n ∈ l, P n) (List.Forall₂ Q l) := by
  induction l with
  | nil => exact of_some (by simp) .nil
  | cons n l ih =>
    have step : (n :: l).mapM f = (f n).bind fun x => (l.mapM f).map fun rest => x :: rest := by
      rw [List.mapM_cons]
      cases f n with
      | none => rfl
      | some x => cases l.mapM f <;> rfl
    rw [step]
    exact (h n).bind ih List.forall_mem_cons fun x rest => .cons

end Reads

theorem numberField_reads (n : Nat) (b : Byte) : Reads (numberField n b) (b.toNat < n) (·.val = b.toNat) :=
  ⟨exists_numberField, fun _ => numberField_val⟩

theorem valueField_reads (n : Nat) (w : Half) : Reads (valueField n w) (w.toNat < n) (·.val = w.toNat) :=
  Reads.of_dite Iff.rfl fun _ => rfl

theorem optionalField_reads (b : Byte) :
    Reads (optionalField 16 b) (b.toNat ≤ 15 ∨ b = 255) (·.map Fin.val = numberOrNone b) :=
  ⟨exists_optionalField.trans (Or.comm.trans (or_congr_left Nat.lt_succ_iff)), fun _ => optionalField_val⟩

/-! ### The fields of the record's head (R101) -/

/-- The trigger kinds with their codes in byte 0, as `RuleRecord.spelledBy` lists them (R101). -/
abbrev triggerCodes : List (Trigger × Nat) :=
  [(.press, 1), (.release, 2), (.place, 3), (.lift, 4), (.tileAny, 5), (.timer, 6), (.injected, 7)]

theorem triggerField_reads (b : Byte) : Reads (triggerField b) (1 ≤ b.toNat ∧ b.toNat ≤ 7)
    (fun t => (t, b.toNat) ∈ triggerCodes) := by
  unfold triggerField
  split
  case h_8 =>
    simp only [imp_false] at *
    exact Reads.of_none (by omega)
  all_goals
    next code =>
      rw [code]
      exact Reads.of_some (by decide) (by decide)

theorem placeField_reads (mode : Nat) (value : Byte) : Reads (placeField mode value)
    (mode ≤ 4 ∧ (mode = 1 → value.toNat ≤ 15) ∧ (mode = 2 → value.toNat ≤ 63) ∧ (mode = 3 → value.toNat ≤ 15))
    (·.spelledBy mode value) := by
  unfold placeField
  split
  · exact Reads.of_some (by omega) rfl
  · exact (numberField_reads 16 value).map (by omega) fun _ => .intro rfl
  · exact (numberField_reads 64 value).map (by omega) fun _ => .intro rfl
  · exact (numberField_reads 16 value).map (by omega) fun _ => .intro rfl
  · exact Reads.of_some (by omega) ⟨rfl, rfl⟩
  · simp only [imp_false] at *
    exact Reads.of_none (by omega)

theorem pieceFilterField_reads (mode : Nat) (value : Byte) : Reads (pieceFilterField mode value)
    (mode ≤ 4 ∧ (mode = 1 → value.toNat ≤ 63) ∧ (mode = 2 → value.toNat ≤ 5)) (·.spelledBy mode value) := by
  unfold pieceFilterField
  split
  · exact Reads.of_some (by omega) rfl
  · exact (numberField_reads 64 value).map (by omega) fun _ => .intro rfl
  · exact (numberField_reads 6 value).map (by omega) fun _ => .intro rfl
  · exact Reads.of_some (by omega) rfl
  · exact Reads.of_some (by omega) rfl
  · simp only [imp_false] at *
    exact Reads.of_none (by omega)

/-- A number byte is absent exactly where the byte is the marker. -/
theorem map_val_eq_none {n : Nat} {x : Option (Fin n)} {b : Byte} (h : x.map Fin.val = numberOrNone b) :
    x = none ↔ b = 255 := by
  rw [← Option.map_eq_none_iff (f := Fin.val), h, numberOrNone]
  simp

/-- A gate stage without a gate quest is refused (R104). -/
theorem gateField_reads (quest stage : Byte) : Reads (gateField quest stage)
    ((quest.toNat ≤ 15 ∨ quest = 255) ∧ (stage.toNat ≤ 15 ∨ stage = 255) ∧ (quest = 255 → stage = 255))
    (fun gate => gate.map (·.quest.val) = numberOrNone quest ∧
      ∀ g, gate = some g → g.stage.map Fin.val = numberOrNone stage) := by
  have first := optionalField_reads quest
  have second := optionalField_reads stage
  rw [← first.1, ← second.1]
  unfold gateField
  split
  · next q st hq hst =>
    have present := mt (map_val_eq_none (first.2 _ hq)).mpr (Option.some_ne_none q)
    exact Reads.of_some ⟨⟨_, hq⟩, ⟨_, hst⟩, fun marker => absurd marker present⟩
      ⟨first.2 _ hq, fun g hg => Option.some.inj hg ▸ second.2 _ hst⟩
  · next hq hst =>
    exact Reads.of_some ⟨⟨_, hq⟩, ⟨_, hst⟩, fun _ => (map_val_eq_none (second.2 _ hst)).mp rfl⟩ ⟨first.2 _ hq, nofun⟩
  · next both neither =>
    refine Reads.of_none ?_
    rintro ⟨⟨q, hq⟩, ⟨st, hst⟩, absent⟩
    cases q with
    | some q => exact both q st hq hst
    | none =>
      have none_stage := (map_val_eq_none (second.2 _ hst)).mpr (absent ((map_val_eq_none (first.2 _ hq)).mp rfl))
      exact neither hq (none_stage ▸ hst)

theorem lowNibble_toNat (b : Byte) : (b &&& 0x0F).toNat = b.toNat % 16 := by
  revert b
  decide

theorem guardSourceField_reads (b : Byte) : Reads (guardSourceField b)
    (b.toNat / 16 ≤ 3 ∧ (b.toNat / 16 = 1 → b.toNat % 16 ≤ 3) ∧ (b.toNat / 16 = 2 → b.toNat % 16 ≤ 5))
    (·.spelledBy (b.toNat / 16) (b.toNat % 16)) := by
  have number (n : Nat) : Reads (numberField n (b &&& 0x0F)) (b.toNat % 16 < n) (·.val = b.toNat % 16) :=
    lowNibble_toNat b ▸ numberField_reads n (b &&& 0x0F)
  unfold guardSourceField
  rw [hiNibble_eq]
  split
  case h_1 code => exact Reads.of_some (by omega) code
  case h_2 code => exact (number 4).map (by omega) fun _ => .intro code
  case h_3 code => exact (number 6).map (by omega) fun _ => .intro code
  case h_4 code => exact Reads.of_some (by omega) code
  case h_5 =>
    simp only [imp_false] at *
    exact Reads.of_none (by omega)

/-! ### The actions (R102, R103) -/

/-- The COUNT operations with their kind codes, as `ActionKind.spelledBy` lists them (R102). -/
abbrev countCodes : List (CountOp × Nat) :=
  [(.load, 1), (.add, 2), (.sub, 3), (.and, 4), (.or, 5), (.xor, 6), (.cmp, 7), (.test, 8)]

theorem countOpOf_reads (kind : Nat) : Reads (countOpOf kind) (1 ≤ kind ∧ kind ≤ 8)
    (fun op => (op, kind) ∈ countCodes) := by
  unfold countOpOf
  split
  case h_9 =>
    simp only [imp_false] at *
    exact Reads.of_none (by omega)
  all_goals exact Reads.of_some (by decide) (by decide)

theorem seatSelectorField_reads (selector : Nat) :
    Reads (seatSelectorField selector) (selector ≤ 8) (·.spelledBy selector) := by
  unfold seatSelectorField
  split_ifs with seat turn piece quest
  · exact Reads.of_some (by omega) rfl
  · exact Reads.of_some (by omega) turn
  · exact Reads.of_some (by omega) piece
  · exact Reads.of_some (by omega) quest
  · exact Reads.of_none (by omega)

theorem effectTargetField_reads (selector : Nat) (hi lo : Byte) : Reads (effectTargetField selector (bigEndian hi lo))
    (selector ≤ 3 ∧ (selector = 1 → hi.toNat ≤ 63) ∧ (selector = 2 → hi.toNat ≤ 15)) (·.spelledBy selector hi) := by
  unfold effectTargetField
  rw [hiByte_bigEndian]
  split
  · exact Reads.of_some (by omega) rfl
  · exact (numberField_reads 64 hi).map (by omega) fun _ => .intro rfl
  · exact (numberField_reads 16 hi).map (by omega) fun _ => .intro rfl
  · exact Reads.of_some (by omega) rfl
  · simp only [imp_false] at *
    exact Reads.of_none (by omega)

/-- What an action kind as read keeps to: its bytes spell it, and it starts no timer at 0 ticks. -/
def ActionKind.fitsBytes (a : ActionKind) (kind selector : Nat) (hi lo : Byte) : Prop :=
  a.spelledBy kind selector hi lo ∧ a ≠ .timerStart 0

theorem countFields_reads {op : CountOp} {kind : Nat} (hop : (op, kind) ∈ countCodes) (selector : Nat) (hi lo : Byte) :
    Reads (countFields op selector (bigEndian hi lo))
      (selector ≤ 7 ∧ (4 ≤ selector → 256 * hi.toNat + lo.toNat ≤ 3)) (·.fitsBytes kind selector hi lo) := by
  have value := valueField_reads 4 (bigEndian hi lo)
  rw [bigEndian_toNat] at value
  unfold countFields
  split_ifs with constant counter
  · exact Reads.of_some (by omega) ⟨⟨hop, .inl ⟨_, rfl, rfl, bigEndian_toNat hi lo⟩⟩, nofun⟩
  · refine value.map (by omega) fun j hj => ⟨⟨hop, .inr ⟨j, rfl, ?_, hj⟩⟩, nofun⟩
    show selector = selector - 4 + 4
    omega
  · exact Reads.of_none (by omega)

/-- The codes below those of the other kinds, and those above them, which no kind has. -/
theorem countKind_reads {kind : Byte} (outside : kind.toNat ≤ 8 ∨ 27 ≤ kind.toNat) (cs hi lo : Byte) :
    Reads ((countOpOf kind.toNat).bind fun op => countFields op (cs.toNat % 16) (bigEndian hi lo))
      (actionLegal kind cs hi lo) (·.fitsBytes kind.toNat (cs.toNat % 16) hi lo) := by
  have operation := countOpOf_reads kind.toNat
  unfold actionLegal
  cases hop : countOpOf kind.toNat with
  | none =>
    have unknown : ¬ (1 ≤ kind.toNat ∧ kind.toNat ≤ 8) := fun known => nomatch hop ▸ operation.1.mpr known
    refine Reads.of_none ?_
    rintro ⟨low, high, -⟩
    omega
  | some op =>
    have known := operation.1.mp ⟨op, hop⟩
    exact (countFields_reads (operation.2 op hop) _ hi lo).weaken (by omega) fun _ => id

theorem actionKindField_reads (kind cs hi lo : Byte) : Reads (actionKindField kind (loNibble cs) (bigEndian hi lo))
    (actionLegal kind cs hi lo) (·.fitsBytes kind.toNat (cs.toNat % 16) hi lo) := by
  rw [loNibble_eq]
  have value (n : Nat) := valueField_reads n (bigEndian hi lo)
  simp only [bigEndian_toNat] at value
  have seat := seatSelectorField_reads (cs.toNat % 16)
  have target := effectTargetField_reads (cs.toNat % 16) hi lo
  unfold actionKindField
  split
  case h_1 code => exact Reads.of_dite (by unfold actionLegal; omega) fun _ => ⟨⟨code, rfl⟩, nofun⟩
  case h_2 code => exact seat.bind (value 10000) (by unfold actionLegal; omega) fun _ _ hs hn => ⟨⟨code, hs, hn⟩, nofun⟩
  case h_3 code => exact seat.bind (value 10000) (by unfold actionLegal; omega) fun _ _ hs hn => ⟨⟨code, hs, hn⟩, nofun⟩
  case h_4 code => exact Reads.of_some (by unfold actionLegal; omega) ⟨code, nofun⟩
  case h_5 code => exact (value 16).map (by unfold actionLegal; omega) fun _ hn => ⟨⟨code, hn⟩, nofun⟩
  case h_6 code => exact Reads.of_some (by unfold actionLegal; omega) ⟨⟨code, (Nat.mod_mod _ 16).symm⟩, nofun⟩
  case h_7 code => exact Reads.of_some (by unfold actionLegal; omega) ⟨code, nofun⟩
  case h_8 code => exact Reads.of_some (by unfold actionLegal; omega) ⟨code, nofun⟩
  case h_9 code =>
    have zero_iff : bigEndian hi lo = 0 ↔ 256 * hi.toNat + lo.toNat = 0 := by
      rw [← bigEndian_toNat, ← BitVec.toNat_inj]
      rfl
    split
    · next zero => exact Reads.of_none (by have := zero_iff.mp zero; unfold actionLegal; omega)
    · next ticks =>
      exact Reads.of_some (by have := mt zero_iff.mpr ticks; unfold actionLegal; omega)
        ⟨⟨code, bigEndian_toNat hi lo⟩, fun h => ticks (ActionKind.timerStart.inj h)⟩
  case h_10 code => exact Reads.of_some (by unfold actionLegal; omega) ⟨code, nofun⟩
  case h_11 code => exact target.map (by unfold actionLegal; omega) fun _ ht => ⟨⟨⟨code, loByte_bigEndian hi lo⟩, ht⟩, nofun⟩
  case h_12 code => exact target.map (by unfold actionLegal; omega) fun _ ht => ⟨⟨⟨code, loByte_bigEndian hi lo⟩, ht⟩, nofun⟩
  case h_13 code => exact target.map (by unfold actionLegal; omega) fun _ ht => ⟨⟨code, ht⟩, nofun⟩
  case h_14 code => exact Reads.of_some (by unfold actionLegal; omega) ⟨code, nofun⟩
  case h_15 code => exact Reads.of_dite (by unfold actionLegal; omega) fun _ => ⟨⟨code, rfl⟩, nofun⟩
  case h_16 code =>
    refine (value 256).map (by unfold actionLegal; omega) fun n hn => ⟨⟨code, ?_⟩, nofun⟩
    rw [loByte_bigEndian]
    omega
  case h_17 code => exact (value 256).map (by unfold actionLegal; omega) fun _ hn => ⟨⟨code, hn⟩, nofun⟩
  case h_18 code => exact (value 256).map (by unfold actionLegal; omega) fun _ hn => ⟨⟨code, hn⟩, nofun⟩
  case h_19 =>
    exact countKind_reads (by simp only [imp_false] at *; omega) cs hi lo

/-- What an action as read keeps to: its bytes spell it, and it starts no timer at 0 ticks. -/
def Action.fitsBytes (a : Action) (kind cs hi lo : Byte) : Prop := a.spelledBy kind cs hi lo ∧ a.kind ≠ .timerStart 0

theorem actionField_reads (kind cs hi lo : Byte) : Reads (actionField kind cs hi lo) (actionLegal kind cs hi lo)
    (fun a => Action.fitsBytes a kind cs hi lo) := by
  refine (actionKindField_reads kind cs hi lo).map Iff.rfl fun a ⟨spelled, ticks⟩ => ⟨⟨?_, spelled⟩, ticks⟩
  show hiNibble cs % 16 = cs.toNat / 16
  rw [hiNibble_eq]
  have := cs.isLt
  omega

theorem recordActions_reads (data : BitVec 224) : Reads (recordActions data)
    (∀ n, n ≤ (recordByte data 1).toNat % 4 → actionLegal (recordByte data (12 + 4 * n)) (recordByte data (13 + 4 * n))
      (recordByte data (14 + 4 * n)) (recordByte data (15 + 4 * n)))
    (fun actions => actions.length = (recordByte data 1).toNat % 4 + 1 ∧
      ∀ (n : Nat) (a : Action), actions[n]? = some a → a.fitsBytes (recordByte data (12 + 4 * n))
        (recordByte data (13 + 4 * n)) (recordByte data (14 + 4 * n)) (recordByte data (15 + 4 * n))) := by
  have declared : (List.range 4).take (actionCount (recordByte data 1)) =
      List.range ((recordByte data 1).toNat % 4 + 1) := by
    rw [List.take_range, actionCount, Nat.min_eq_left (by omega)]
  unfold recordActions
  rw [declared]
  refine (Reads.mapM (fun n => actionField_reads _ _ _ _) _).weaken ?_ fun actions read => ?_
  · simp only [List.mem_range, Nat.lt_succ_iff]
  · obtain ⟨length, each⟩ := List.forall₂_iff_get.mp read
    refine ⟨by simpa using length.symm, fun n a ha => ?_⟩
    obtain ⟨hn, rfl⟩ := List.getElem?_eq_some_iff.mp ha
    simpa using each n (length.symm ▸ hn) hn

/-! ### The fit of the fields (R65, R104) -/

/-- A trigger's code is in range, and is 6 for TIMER and 7 for INJECTED alone. -/
theorem trigger_code {t : Trigger} {code : Nat} (ht : (t, code) ∈ triggerCodes) :
    code ≤ 7 ∧ (t = .timer ↔ code = 6) ∧ (t = .injected ↔ code = 7) := by
  simp only [List.mem_cons, Prod.mk.injEq, List.not_mem_nil, or_false] at ht
  rcases ht with ⟨rfl, rfl⟩ | ⟨rfl, rfl⟩ | ⟨rfl, rfl⟩ | ⟨rfl, rfl⟩ | ⟨rfl, rfl⟩ | ⟨rfl, rfl⟩ | ⟨rfl, rfl⟩ <;> decide

theorem triggerFits_iff {t : Trigger} {p : Place} {code mode : Nat} {value : Byte} (ht : (t, code) ∈ triggerCodes)
    (hp : p.spelledBy mode value) : triggerFits t p = true ↔
      (code ≤ 5 → mode ≤ 2) ∧ (code = 6 → mode = 0 ∨ mode = 3) ∧ (code = 7 → mode = 0 ∨ mode = 4) := by
  obtain ⟨range, timer, injected⟩ := trigger_code ht
  cases p with
  | any =>
    obtain rfl : mode = 0 := hp
    simp [triggerFits]
  | zone z =>
    obtain ⟨rfl, -⟩ := hp
    simp only [triggerFits, Bool.and_eq_true, bne_iff_ne, ne_eq, timer, injected]
    omega
  | tile k =>
    obtain ⟨rfl, -⟩ := hp
    simp only [triggerFits, Bool.and_eq_true, bne_iff_ne, ne_eq, timer, injected]
    omega
  | quest q =>
    obtain ⟨rfl, -⟩ := hp
    rw [triggerFits, beq_iff_eq, timer]
    omega
  | code c =>
    obtain ⟨rfl, -⟩ := hp
    rw [triggerFits, beq_iff_eq, injected]
    omega

/-- A place that fits the trigger: an ended timer's with a quest's or any, an injected event's with a code or any, a tile
event's with neither a quest nor a code (R104). -/
theorem place_of_triggerFits {t : Trigger} {p : Place} (h : triggerFits t p = true) :
    (t = .timer → (∀ z, p ≠ .zone z) ∧ (∀ k, p ≠ .tile k) ∧ ∀ c, p ≠ .code c) ∧
      (t = .injected → (∀ z, p ≠ .zone z) ∧ (∀ k, p ≠ .tile k) ∧ ∀ q, p ≠ .quest q) ∧
      (t ≠ .timer → ∀ q, p ≠ .quest q) ∧ (t ≠ .injected → ∀ c, p ≠ .code c) := by
  cases p with
  | any => simp
  | zone z => simpa [triggerFits] using h
  | tile k => simpa [triggerFits] using h
  | quest q =>
    obtain rfl : t = .timer := by simpa [triggerFits] using h
    simp
  | code c =>
    obtain rfl : t = .injected := by simpa [triggerFits] using h
    simp

theorem ActionKind.needsHome_iff_of_spelledBy {a : ActionKind} {kind selector : Nat} {hi lo : Byte}
    (h : a.spelledBy kind selector hi lo) : a.needsHome = true ↔
      kind ≤ 9 ∨ kind = 12 ∨ kind = 13 ∨ (15 ≤ kind ∧ kind ≤ 18) := by
  cases a with
  | count op c o =>
    have range : kind ≤ 8 := by
      have code := h.1
      simp only [List.mem_cons, Prod.mk.injEq, List.not_mem_nil, or_false] at code
      omega
    simp only [needsHome, true_iff]
    omega
  | effect e target =>
    obtain ⟨code, -⟩ := h
    cases e <;> simp only [needsHome, Effect.spelledBy, Bool.false_eq_true, false_iff] at code ⊢ <;> omega
  | _ =>
    simp only [needsHome, spelledBy, true_iff, Bool.false_eq_true, false_iff] at h ⊢
    omega

theorem Action.isHome_iff_of_spelledBy {a : Action} {kind cs hi lo : Byte} (h : a.spelledBy kind cs hi lo) :
    a.isHome = true ↔ actionNeedsHome kind cs := by
  obtain ⟨condition, spelled⟩ := h
  have always : a.condition ≠ 0 ↔ 16 ≤ cs.toNat := by
    rw [Ne, Fin.ext_iff, condition]
    exact Nat.div_ne_zero_iff.trans (and_iff_right (by decide))
  rw [Action.isHome_iff, ActionKind.needsHome_iff_of_spelledBy spelled, always, or_comm]
  simp only [actionNeedsHome, or_assoc]

theorem GuardSource.isCounter_iff {source : GuardSource} {code number : Nat} (h : source.spelledBy code number) :
    source.isCounter = true ↔ code = 1 := by
  cases source with
  | none => simp [isCounter, show code = 0 from h]
  | counter c => simp [isCounter, h.1]
  | seatScore n => simp [isCounter, h.1]
  | turnScore => simp [isCounter, show code = 3 from h]

theorem homeFits_iff {r : RuleRecord} {b : Nat → Byte} (h : r.spelledBy b) : homeFits r = true ↔
    (b 5 = 255 → (b 8).toNat / 16 ≠ 1 ∧
      ∀ n, n ≤ (b 1).toNat % 4 → ¬ actionNeedsHome (b (12 + 4 * n)) (b (13 + 4 * n))) := by
  obtain ⟨-, -, -, home, -, -, source, -, -, -, -, -, length, each⟩ := h
  have homeless : r.actions.any Action.isHome = false ↔
      ∀ n, n ≤ (b 1).toNat % 4 → ¬ actionNeedsHome (b (12 + 4 * n)) (b (13 + 4 * n)) := by
    rw [List.any_eq_false, List.forall_mem_iff_getElem]
    have nth (n : Nat) (hn : n < r.actions.length) :=
      Action.isHome_iff_of_spelledBy (each n _ (List.getElem?_eq_getElem hn))
    exact ⟨fun noHome n hn needs => noHome n (by omega) ((nth n (by omega)).mpr needs),
      fun noHome n hn home => noHome n (by omega) ((nth n hn).mp home)⟩
  rw [homeFits, ← map_val_eq_none home, ← homeless, Ne, ← GuardSource.isCounter_iff source]
  cases r.home with
  | none => simp [and_comm]
  | some q => simp

/-- A record that fits a missing home quest has neither a home-quest action nor a COUNTER guard (R104). -/
theorem homeless_of_homeFits {r : RuleRecord} (h : homeFits r = true) (home : r.home = none) :
    (∀ a ∈ r.actions, a.isHome = false ∧ a.condition = 0) ∧ ∀ c, r.guard.source ≠ .counter c := by
  simp only [homeFits, home, Option.isSome_none, Bool.false_or, Bool.and_eq_true, Bool.not_eq_true', List.any_eq_false]
    at h
  obtain ⟨actions, guard⟩ := h
  refine ⟨fun a ha => ?_, fun c hc => ?_⟩
  · have := Bool.eq_false_iff.mpr (actions a ha)
    simp_all [Action.isHome]
  · rw [hc] at guard
    cases guard

/-! ### The record -/

theorem recordGuard_reads (data : BitVec 224) : Reads (recordGuard data)
    ((recordByte data 8).toNat / 16 ≤ 3 ∧ ((recordByte data 8).toNat / 16 = 1 → (recordByte data 8).toNat % 16 ≤ 3) ∧
      ((recordByte data 8).toNat / 16 = 2 → (recordByte data 8).toNat % 16 ≤ 5))
    (fun guard => guard.source.spelledBy ((recordByte data 8).toNat / 16) ((recordByte data 8).toNat % 16) ∧
      guard.condition.val = (recordByte data 9).toNat % 16 ∧
      guard.operand.toNat = 256 * (recordByte data 10).toNat + (recordByte data 11).toNat) := by
  refine (guardSourceField_reads _).map Iff.rfl fun source spelled => ⟨spelled, ?_, bigEndian_toNat ..⟩
  show loNibble (recordByte data 9) % 16 = _
  rw [loNibble_eq, Nat.mod_mod]

/-- Each field of the record is what its reader gives; whether the fields fit together is left aside. -/
structure RuleRecord.IsReadFrom (r : RuleRecord) (data : BitVec 224) : Prop where
  trigger : triggerField (recordByte data 0) = some r.trigger
  place : placeField ((recordByte data 2).toNat / 16) (recordByte data 3) = some r.place
  piece : pieceFilterField ((recordByte data 2).toNat % 16) (recordByte data 4) = some r.piece
  home : optionalField 16 (recordByte data 5) = some r.home
  gate : gateField (recordByte data 6) (recordByte data 7) = some r.gate
  guard : recordGuard data = some r.guard
  actions : recordActions data = some r.actions
  chain : r.chain = (recordByte data 1).getLsbD 4
  singleShot : r.singleShot = (recordByte data 1).getLsbD 5
  startDisabled : r.startDisabled = (recordByte data 1).getLsbD 6

theorem decodeRule_eq_some {data : BitVec 224} {r : RuleRecord} : decodeRule data = some r ↔
    r.IsReadFrom data ∧ triggerFits r.trigger r.place = true ∧ homeFits r = true := by
  simp only [decodeRule, hiNibble_eq, loNibble_eq]
  constructor
  · intro h
    split at h
    · next trigger place piece home gate guard actions =>
      split at h
      · next fits =>
        cases h
        exact ⟨⟨trigger, place, piece, home, gate, guard, actions, rfl, rfl, rfl⟩, Bool.and_eq_true_iff.mp fits⟩
      · cases h
    · cases h
  · rintro ⟨read, fits⟩
    obtain ⟨trigger, place, piece, home, gate, guard, chain, singleShot, startDisabled, actions⟩ := r
    obtain ⟨ht, hp, hf, hh, hg, hgu, ha, rfl, rfl, rfl⟩ := read
    simp only [ht, hp, hf, hh, hg, hgu, ha]
    exact if_pos (Bool.and_eq_true_iff.mpr fits)

theorem RuleRecord.IsReadFrom.spelledBy {r : RuleRecord} {data : BitVec 224} (h : r.IsReadFrom data) :
    r.spelledBy (recordByte data) := by
  obtain ⟨gate, stage⟩ := (gateField_reads _ _).2 _ h.gate
  obtain ⟨source, condition, operand⟩ := (recordGuard_reads data).2 _ h.guard
  obtain ⟨length, actions⟩ := (recordActions_reads data).2 _ h.actions
  exact ⟨(triggerField_reads _).2 _ h.trigger, (placeField_reads _ _).2 _ h.place, (pieceFilterField_reads _ _).2 _ h.piece,
    (optionalField_reads _).2 _ h.home, gate, stage, source, condition, operand, h.chain, h.singleShot, h.startDisabled,
    length, fun n a ha => (actions n a ha).1⟩

/-- The checks of R104 on a record: the readers accept their fields, and the fields fit together. -/
theorem exists_decodeRule (data : BitVec 224) : (∃ r, decodeRule data = some r) ↔ recordLegal (recordByte data) := by
  constructor
  · rintro ⟨r, h⟩
    obtain ⟨read, trigger, home⟩ := decodeRule_eq_some.mp h
    have spelled := read.spelledBy
    obtain ⟨low, high⟩ := (triggerField_reads _).1.mp ⟨_, read.trigger⟩
    obtain ⟨place, zone, tile, quest⟩ := (placeField_reads _ _).1.mp ⟨_, read.place⟩
    obtain ⟨piece, id, seat⟩ := (pieceFilterField_reads _ _).1.mp ⟨_, read.piece⟩
    obtain ⟨gate, stage, stageless⟩ := (gateField_reads _ _).1.mp ⟨_, read.gate⟩
    obtain ⟨source, counter, score⟩ := (recordGuard_reads data).1.mp ⟨_, read.guard⟩
    obtain ⟨tilePlace, timerPlace, codePlace⟩ := (triggerFits_iff spelled.1 spelled.2.1).mp trigger
    exact ⟨low, high, place, zone, tile, quest, piece, id, seat, (optionalField_reads _).1.mp ⟨_, read.home⟩, gate, stage,
      stageless, source, counter, score, (recordActions_reads data).1.mp ⟨_, read.actions⟩, tilePlace, timerPlace, codePlace,
      (homeFits_iff spelled).mp home⟩
  · rintro ⟨low, high, place, zone, tile, quest, piece, id, seat, home, gate, stage, stageless, source, counter, score,
      actions, tilePlace, timerPlace, codePlace, homeless⟩
    obtain ⟨t, ht⟩ := (triggerField_reads _).1.mpr ⟨low, high⟩
    obtain ⟨p, hp⟩ := (placeField_reads _ _).1.mpr ⟨place, zone, tile, quest⟩
    obtain ⟨f, hf⟩ := (pieceFilterField_reads _ _).1.mpr ⟨piece, id, seat⟩
    obtain ⟨q, hq⟩ := (optionalField_reads _).1.mpr home
    obtain ⟨g, hg⟩ := (gateField_reads _ _).1.mpr ⟨gate, stage, stageless⟩
    obtain ⟨guard, hguard⟩ := (recordGuard_reads data).1.mpr ⟨source, counter, score⟩
    obtain ⟨as, has⟩ := (recordActions_reads data).1.mpr actions
    have read : RuleRecord.IsReadFrom ⟨t, p, f, q, g, guard, _, _, _, as⟩ data :=
      ⟨ht, hp, hf, hq, hg, hguard, has, rfl, rfl, rfl⟩
    have spelled := read.spelledBy
    exact ⟨_, decodeRule_eq_some.mpr ⟨read, (triggerFits_iff spelled.1 spelled.2.1).mpr ⟨tilePlace, timerPlace, codePlace⟩,
      (homeFits_iff spelled).mpr homeless⟩⟩

/-- Settles O30: each reader accepts and reads its field as its bytes say, and so does the record. -/
theorem recordsAreCheckedAndReadByTheirBytes : Obligations.RecordsAreCheckedAndReadByTheirBytes := by
  refine ⟨exists_decodeRule, fun data r h => ?_⟩
  obtain ⟨read, trigger, home⟩ := decodeRule_eq_some.mp h
  obtain ⟨length, actions⟩ := (recordActions_reads data).2 _ read.actions
  refine ⟨read.spelledBy, by omega, by omega, place_of_triggerFits trigger, homeless_of_homeFits home, fun a ha => ?_⟩
  obtain ⟨n, hn⟩ := List.mem_iff_getElem?.mp ha
  exact (actions n a hn).2

end Sys2Proof.Machine
end

section
/-! The requests on setup, scores and the turn: SETUP, SCORE-SET, SCORE-READ and the host's TURN-SET (R95, R99, R100, R136). -/

namespace Sys2Proof.Machine

open Sys2Proof

/-! ### The bodies -/

theorem byteOf_of_toNat (b : Byte) : byteOf b.toNat = b := by
  rw [byteOf, BitVec.ofNat_toNat, BitVec.setWidth_eq]

/-- A body is a SETUP exactly when it spells four values in their ranges (R136). -/
theorem parseSetup_eq_some {body : List Byte} {r : SetupRequest} : parseSetup body = some r ↔
    (1 ≤ r.seatCount ∧ r.seatCount ≤ 6 ∧ 1 ≤ r.highMark ∧ r.highMark ≤ 16) ∧
      body = [byteOf r.seatCount, byteOf r.highMark, yesNoCode r.unclaimedEcho, yesNoCode r.scrub] := by
  match body with
  | [] | [_] | [_, _] | [_, _, _] | _ :: _ :: _ :: _ :: _ :: _ => simp [parseSetup]
  | [seats, mark, unclaimed, scrub] =>
    obtain ⟨n, m, u, c⟩ := r
    simp only [List.cons.injEq, and_true, ← yesNoField_eq_some]
    constructor
    · intro h
      simp only [parseSetup] at h
      split at h
      · next hu hc =>
        split at h
        · next ranges =>
          cases h
          exact ⟨ranges, (byteOf_of_toNat _).symm, (byteOf_of_toNat _).symm, hu, hc⟩
        · cases h
      · cases h
    · rintro ⟨ranges, rfl, rfl, hu, hc⟩
      have hn : (byteOf n).toNat = n := byteOf_toNat (by omega)
      have hm : (byteOf m).toNat = m := byteOf_toNat (by omega)
      simp only [parseSetup, hu, hc, hn, hm]
      exact if_pos ranges

/-- The bytes of a number to 65535, most significant first, are those of its two-byte field (R183). -/
theorem bigEndian_eq_iff {hi lo : Byte} {n : Nat} (hn : n < 65536) :
    (bigEndian hi lo).toNat = n ↔ hi = byteOf (n / 256) ∧ lo = byteOf n := by
  have high := hi.isLt
  have low := lo.isLt
  simp only [bigEndian_toNat, byteOf, ← BitVec.toNat_inj, BitVec.toNat_ofNat]
  omega

theorem numberBytes_eq {n : Nat} (h : n < 65536) : numberBytes n = [byteOf (n / 256), byteOf n] := by
  obtain ⟨hi, lo⟩ := (bigEndian_eq_iff h).mp (show (bigEndian (hiByte (.ofNat 16 n)) (loByte (.ofNat 16 n))).toNat = n by
    rw [bigEndian_hiByte_loByte, BitVec.toNat_ofNat, Nat.mod_eq_of_lt h])
  rw [numberBytes, halfBytes, hi, lo]

/-- A body is a SCORE-SET exactly when it spells a seat and a score 0 to 9999 (R95). -/
theorem parseScoreSet_eq_some {body : List Byte} {seat : Fin 6} {n : Nat} : parseScoreSet body = some (seat, n) ↔
    n ≤ 9999 ∧ body = [byteOf seat.val, byteOf (n / 256), byteOf n] := by
  match body with
  | [] | [_] | [_, _] | _ :: _ :: _ :: _ :: _ => simp [parseScoreSet]
  | [b, hi, lo] =>
    simp only [List.cons.injEq, and_true, ← numberField_eq_some (show 6 ≤ 256 by decide)]
    constructor
    · intro h
      simp only [parseScoreSet] at h
      split at h
      · next hb =>
        split at h
        · next range =>
          cases h
          exact ⟨range, hb, (bigEndian_eq_iff (by omega)).mp rfl⟩
        · cases h
      · cases h
    · rintro ⟨range, hb, bytes⟩
      have value := (bigEndian_eq_iff (by omega)).mpr bytes
      simp only [parseScoreSet, hb, value]
      exact if_pos range

/-! ### The items -/

/-- The item in flight is nothing to a SETUP. -/
theorem setupItem_take (body : List Byte) (s : State) (w : WorkItem) :
    setupItem body (s.take w) = ((setupItem body s).1.take w, (setupItem body s).2) := by
  unfold setupItem
  split <;> rfl

theorem scoreSetItem_take (body : List Byte) (s : State) (w : WorkItem) :
    scoreSetItem body (s.take w) = ((scoreSetItem body s).1.take w, (scoreSetItem body s).2) := by
  unfold scoreSetItem
  split <;> rfl

theorem turnSetItem_take (body : List Byte) (s : State) (w : WorkItem) :
    turnSetItem body (s.take w) = ((turnSetItem body s).1.take w, (turnSetItem body s).2) := by
  have seatCount : (s.take w).engine.seatCount = s.engine.seatCount := rfl
  unfold turnSetItem
  split
  · rfl
  · rw [seatCount]
    split <;> rfl

/-- Settles O27: a body that spells four values in their ranges stores them, and no other body does. -/
theorem setupStoresItsFourValues : Obligations.SetupStoresItsFourValues := by
  intro s body hs
  have served {t : State} {reply : Reply} (h : setupItem body s = (t, reply))
      (ht : t.engine.inFlight = s.engine.inFlight) : exec (.setup body) s = .next (t.withHandler (.reply reply)) :=
    congrArg _ (serveItem_of_serving hs (ht.trans (State.inFlight_of_serving hs)) (by rw [setupItem_take, h]))
  refine ⟨fun n m u c n1 n6 m1 m16 hb => ?_, fun bad => ?_⟩
  · have read : parseSetup body = some ⟨n, m, u, c⟩ := parseSetup_eq_some.mpr ⟨⟨n1, n6, m1, m16⟩, hb⟩
    exact served (by simp only [setupItem, read, Reply.done]) rfl
  · have unread : parseSetup body = none := Option.eq_none_iff_forall_ne_some.mpr fun r hr => by
      obtain ⟨⟨n1, n6, m1, m16⟩, hb⟩ := parseSetup_eq_some.mp hr
      exact bad ⟨_, _, _, _, n1, n6, m1, m16, hb⟩
    exact served (by simp only [setupItem, unread, Reply.invalid]) rfl

/-! ### SCORE-READ -/

/-- The marks of six seats in one byte (R95). -/
def scoreMarks (marked : Fin 6 → Bool) : Byte :=
  (List.finRange 6).foldl (fun (acc : Byte) i => if marked i then acc ||| (1 <<< i.val) else acc) 0

/-- Seat by seat in bits 0 to 5 (R95). -/
theorem scoreMarks_bits (marked : Fin 6 → Bool) : (∀ i : Fin 6, (scoreMarks marked).getLsbD i.val = marked i) ∧
    (scoreMarks marked).getLsbD 6 = false ∧ (scoreMarks marked).getLsbD 7 = false := by
  revert marked
  decide

/-- Six two-byte scores behind seat count, turn seat and marks (R95). -/
theorem scoreContent_eq (g : Engine) : ∃ marks : Byte,
    scoreContent g = byteOf g.seatCount :: byteOf g.turn.val :: marks ::
      (List.finRange 6).flatMap (fun i => [byteOf ((g.scores[i]).value / 256), byteOf (g.scores[i]).value]) ∧
    (∀ i : Fin 6, marks.getLsbD i.val = (g.scores[i]).saturated) ∧ marks.getLsbD 6 = false ∧ marks.getLsbD 7 = false := by
  have bytes (i : Fin 6) : numberBytes (g.scores[i]).value =
      [byteOf ((g.scores[i]).value / 256), byteOf (g.scores[i]).value] :=
    numberBytes_eq ((Score.value_le _).trans_lt (by decide))
  refine ⟨scoreMarks fun i => (g.scores[i]).saturated, ?_, scoreMarks_bits _⟩
  simp only [scoreContent, bytes]
  rfl

/-- Settles O39: each item, by whether its body is read. -/
theorem scoreAndTurnRequests : Obligations.ScoreAndTurnRequests := by
  refine ⟨fun s body => ⟨fun hs => ?_, fun hs => ?_⟩, fun s body hs => ?_⟩
  · have served {t : State} {reply : Reply} (h : scoreSetItem body s = (t, reply))
        (ht : t.engine.inFlight = s.engine.inFlight) : exec (.scoreSet body) s = .next (t.withHandler (.reply reply)) :=
      congrArg _ (serveItem_of_serving hs (ht.trans (State.inFlight_of_serving hs)) (by rw [scoreSetItem_take, h]))
    refine ⟨fun seat n range hb => ?_, fun bad => ?_⟩
    · have read : parseScoreSet body = some (seat, n) := parseScoreSet_eq_some.mpr ⟨range, hb⟩
      exact ⟨Score.ofNat n false, Score.ofNat_value n false range, rfl,
        served (by simp only [scoreSetItem, read, Reply.done]) rfl⟩
    · have unread : parseScoreSet body = none := Option.eq_none_iff_forall_ne_some.mpr fun x hx =>
        bad ⟨x.1, x.2, parseScoreSet_eq_some.mp hx⟩
      exact served (by simp only [scoreSetItem, unread, Reply.invalid]) rfl
  · refine ⟨fun hb => ?_, fun bad => ?_⟩
    · obtain ⟨marks, content, bits⟩ := scoreContent_eq s.engine
      refine ⟨marks, congrArg _ (serveItem_unchanged hs ?_), bits⟩
      have idle : scoreContent (s.take (.management 0x15 body)).engine = scoreContent s.engine := rfl
      rw [scoreReadItem, if_pos hb, idle, content, Reply.done]
    · exact congrArg _ (serveItem_unchanged hs (by rw [scoreReadItem, if_neg bad, Reply.invalid]))
  · have served {t : State} {reply : Reply} (h : turnSetItem body s = (t, reply))
        (ht : t.engine.inFlight = s.engine.inFlight) : exec (.turnSet body) s = .next (t.withHandler (.reply reply)) :=
      congrArg _ (serveItem_of_serving hs (ht.trans (State.inFlight_of_serving hs)) (by rw [turnSetItem_take, h]))
    refine ⟨fun n hb inPlay => ?_, fun bad => ?_⟩
    · have read : oneNumber 6 body = some n := (oneNumber_eq_some (by decide)).mpr hb
      exact served (by simp only [turnSetItem, read, inPlay, if_true, Reply.done]) rfl
    · refine served (t := s) (reply := Reply.invalid 0x16) ?_ rfl
      cases read : oneNumber 6 body with
      | none => simp only [turnSetItem, read]
      | some n =>
        have outOfPlay : ¬ n.val < s.engine.seatCount := fun h => bad ⟨n, (oneNumber_eq_some (by decide)).mp read, h⟩
        simp only [turnSetItem, read, outOfPlay, if_false]

end Sys2Proof.Machine
end

section
/-! Matching: each of the five tests as its rule says it (R88, R89, R111 to R113). -/

namespace Sys2Proof.Machine

open Sys2Proof

/-- The trigger kind is the event's, or TILE-ANY for a tile event (R111). -/
theorem triggerTest_iff (t : Trigger) (ev : Event) : triggerTest t ev = true ↔
    (∃ x, ev = .tile x ∧ (t = .tileAny ∨ (t = .press ∧ x.event = .press) ∨ (t = .release ∧ x.event = .release) ∨
      (t = .place ∧ ∃ p, x.event = .place p) ∨ (t = .lift ∧ ∃ p, x.event = .lift p))) ∨
    (t = .timer ∧ ∃ q, ev = .timer q) ∨ (t = .injected ∧ ∃ c, ev = .injected c) := by
  cases ev with
  | timer q => simp [triggerTest]
  | injected c => simp [triggerTest]
  | tile x =>
    cases t with
    | place => cases hx : x.event <;> simp [triggerTest, hx]
    | lift => cases hx : x.event <;> simp [triggerTest, hx]
    | _ => simp [triggerTest]

/-- The place is ANY or the event's zone, tile, quest or code (R111). -/
theorem placeTest_iff (p : Place) (ev : Event) : placeTest p ev = true ↔ p = .any ∨
    (∃ x, ev = .tile x ∧ (p = .zone x.zone ∨ p = .tile (tileIndex x.arm x.position))) ∨
    (∃ q, ev = .timer q ∧ p = .quest q) ∨ (∃ c, ev = .injected c ∧ p = .code c) := by
  cases p with
  | any => simp [placeTest]
  | zone z => cases ev <;> simp [placeTest, eq_comm (a := z)]
  | tile i => cases ev <;> simp [placeTest, eq_comm (a := i)]
  | quest k => cases ev <;> simp [placeTest, eq_comm (a := k)]
  | code c => cases ev <;> simp [placeTest, eq_comm (a := c)]

/-- An event carries a piece exactly when it is a PLACE or a LIFT of it (R111). -/
theorem Event.piece_eq_some {ev : Event} {p : Piece} :
    ev.piece = some p ↔ ∃ x, ev = .tile x ∧ (x.event = .place p ∨ x.event = .lift p) := by
  cases ev with
  | timer q => simp [Event.piece]
  | injected c => simp [Event.piece]
  | tile x => cases hx : x.event <;> simp [Event.piece, hx]

/-- The piece filter is ANY or fits the piece that the event carries (R111). -/
theorem pieceTest_iff (f : PieceFilter) (turn : Fin 6) (ev : Event) : pieceTest f turn ev = true ↔ f = .any ∨
    ∃ p, ev.piece = some p ∧ (f = .piece p.id ∨
      (∃ n, p.seat = .player n ∧ (f = .seat n ∨ (f = .turnSeat ∧ n = turn))) ∨ (p.seat = .neutral ∧ f = .neutral)) := by
  cases f with
  | any => simp [pieceTest]
  | piece i => cases hp : ev.piece <;> simp [pieceTest, hp, eq_comm (a := i)]
  | seat n => cases hp : ev.piece <;> simp [pieceTest, hp]
  | turnSeat => cases hp : ev.piece <;> simp [pieceTest, hp]
  | neutral => cases hp : ev.piece <;> simp [pieceTest, hp]

/-- The gate's quest, if any, is ACTIVE and at the gate's stage, if any (R112). -/
theorem gateTest_iff (g : Option Gate) (s : State) : gateTest g s = true ↔ ∀ x, g = some x →
    (s.quest x.quest).state = .active ∧ ∀ st, x.stage = some st → (s.quest x.quest).stage = st := by
  cases g with
  | none => simp [gateTest]
  | some x => cases hst : x.stage <;> simp [gateTest, hst]

/-- A score is read as the 16-bit number of its value (R89). -/
theorem Score.half_eq_iff {x : Score} {a : Half} : a = x.half ↔ a.toNat = x.value := by
  have small : x.value < 65536 := x.value_le.trans_lt (by decide)
  rw [← BitVec.toNat_inj, Score.half, BitVec.toNat_ofNat, Nat.mod_eq_of_lt small]

/-- A guard holds when it has no source, or its condition holds of a comparison of the number its source names with its
operand (R88, R89). -/
theorem guardTest_iff (g : Guard) (home : Option (Fin 16)) (s : State) : guardTest g home s = true ↔ g.source = .none ∨
    ∃ a : Half, condHolds g.condition (guardFlags a g.operand) = true ∧
      ((∃ q c, home = some q ∧ g.source = .counter c ∧ a = (s.quest q).counters[c]) ∨
        (∃ n, g.source = .seatScore n ∧ a.toNat = (s.engine.scores[n]).value) ∨
        (g.source = .turnScore ∧ a.toNat = (s.engine.scores[s.engine.turn]).value)) := by
  simp only [← Score.half_eq_iff]
  cases hg : g.source with
  | none => simp [guardTest, hg]
  | counter c => cases home <;> simp [guardTest, hg]
  | seatScore n => simp [guardTest, hg]
  | turnScore => simp [guardTest, hg]

/-- Settles O15: the five tests, one by one. -/
theorem ruleMatchesExactlyWhenItsTestsPass : Obligations.RuleMatchesExactlyWhenItsTestsPass := by
  intro r ev s
  have carried : pieceTest r.piece s.engine.turn ev = true ↔ r.piece = .any ∨
      ∃ x p, ev = .tile x ∧ (x.event = .place p ∨ x.event = .lift p) ∧ (r.piece = .piece p.id ∨
        (∃ n, p.seat = .player n ∧ (r.piece = .seat n ∨ (r.piece = .turnSeat ∧ n = s.engine.turn))) ∨
        (p.seat = .neutral ∧ r.piece = .neutral)) := by
    simp only [pieceTest_iff, Event.piece_eq_some]
    exact or_congr_right ⟨fun ⟨p, ⟨x, hx, carries⟩, fits⟩ => ⟨x, p, hx, carries, fits⟩,
      fun ⟨x, p, hx, carries, fits⟩ => ⟨p, ⟨x, hx, carries⟩, fits⟩⟩
  simp only [ruleMatches, Bool.and_eq_true, triggerTest_iff, placeTest_iff, carried, gateTest_iff, guardTest_iff, and_assoc]

end Sys2Proof.Machine
end

section
/-! The score actions (R90 to R94): digit by digit, the sum and the difference within 0 to 9999, and the seats that the
selectors name. -/

namespace Sys2Proof.Machine

open Sys2Proof

/-! ### The digits -/

section Digits

variable (s n : Score)

/-- The digits of an addition make the sum, less 10000 where the last carry is set; there the limit cuts it (R92). -/
theorem scoreAdd_spec : (scoreAdd s n).value = min (s.value + n.value) 9999 ∧
    ((scoreAdd s n).saturated = true ↔ 9999 < s.value + n.value) := by
  unfold scoreAdd
  simp only []
  have units := addDigit_spec s.units n.units false
  generalize addDigit s.units n.units false = u at units ⊢
  have tens := addDigit_spec s.tens n.tens u.2
  generalize addDigit s.tens n.tens u.2 = t at tens ⊢
  have hundreds := addDigit_spec s.hundreds n.hundreds t.2
  generalize addDigit s.hundreds n.hundreds t.2 = h at hundreds ⊢
  have thousands := addDigit_spec s.thousands n.thousands h.2
  generalize addDigit s.thousands n.thousands h.2 = th at thousands ⊢
  have digits : s.value + n.value = Score.value ⟨th.1, h.1, t.1, u.1, false⟩ + 10000 * th.2.toNat := by
    simp only [Score.value, Bool.toNat_false] at units ⊢
    omega
  have within := Score.value_le ⟨th.1, h.1, t.1, u.1, false⟩
  cases carry : th.2 with
  | true =>
    have above : 9999 < s.value + n.value := by
      rw [digits, carry, Bool.toNat_true]
      omega
    have top : Score.value ⟨9, 9, 9, 9, true⟩ = 9999 := rfl
    rw [if_pos rfl, min_eq_right above.le]
    exact ⟨top, iff_of_true rfl above⟩
  | false =>
    rw [carry, Bool.toNat_false, Nat.mul_zero, Nat.add_zero] at digits
    rw [if_neg Bool.false_ne_true, digits, min_eq_left within]
    exact ⟨rfl, iff_of_false Bool.false_ne_true within.not_gt⟩

/-- The digits of a subtraction make the difference, plus 10000 where the last borrow is set; there the limit cuts it
(R93). -/
theorem scoreSub_spec : (scoreSub s n).value = s.value - n.value ∧
    ((scoreSub s n).saturated = true ↔ s.value < n.value) := by
  unfold scoreSub
  simp only []
  have units := subDigit_spec s.units n.units false
  generalize subDigit s.units n.units false = u at units ⊢
  have tens := subDigit_spec s.tens n.tens u.2
  generalize subDigit s.tens n.tens u.2 = t at tens ⊢
  have hundreds := subDigit_spec s.hundreds n.hundreds t.2
  generalize subDigit s.hundreds n.hundreds t.2 = h at hundreds ⊢
  have thousands := subDigit_spec s.thousands n.thousands h.2
  generalize subDigit s.thousands n.thousands h.2 = th at thousands ⊢
  have digits : s.value + 10000 * th.2.toNat = Score.value ⟨th.1, h.1, t.1, u.1, false⟩ + n.value := by
    simp only [Score.value, Bool.toNat_false] at units ⊢
    omega
  have within := Score.value_le ⟨th.1, h.1, t.1, u.1, false⟩
  cases borrow : th.2 with
  | true =>
    have below : s.value < n.value := by
      rw [borrow, Bool.toNat_true] at digits
      omega
    have bottom : Score.value ⟨0, 0, 0, 0, true⟩ = 0 := rfl
    rw [if_pos rfl, Nat.sub_eq_zero_of_le below.le]
    exact ⟨bottom, iff_of_true rfl below⟩
  | false =>
    rw [borrow, Bool.toNat_false, Nat.mul_zero, Nat.add_zero] at digits
    rw [if_neg Bool.false_ne_true, digits, Nat.add_sub_cancel]
    exact ⟨rfl, iff_of_false Bool.false_ne_true (Nat.le_add_left ..).not_gt⟩

end Digits

/-! ### The seats -/

section Seats

variable {s : State} {m seat : Fin 6}

theorem seatInPlay_eq_some : seatInPlay s m = some seat ↔ m = seat ∧ seat.val < s.engine.seatCount := by
  unfold seatInPlay
  split
  · next h => exact ⟨fun same => ⟨Option.some.inj same, Option.some.inj same ▸ h⟩, fun same => congrArg some same.1⟩
  · next h => exact ⟨nofun, fun same => absurd (same.1 ▸ same.2) h⟩

theorem seatInPlay_eq_none : seatInPlay s m = none ↔ s.engine.seatCount ≤ m.val := by
  unfold seatInPlay
  split
  · next h => exact ⟨nofun, fun out => absurd h (Nat.not_lt.mpr out)⟩
  · next h => exact ⟨fun _ => Nat.not_lt.mp h, fun _ => rfl⟩

/-- PIECE-OWNER names the player of the piece that the event carries (R91). -/
theorem resolveSeat_pieceOwner {ev : Event} {home : Option (Fin 16)} : resolveSeat s .pieceOwner ev home = some seat ↔
    (∃ p, ev.piece = some p ∧ p.seat = .player seat) ∧ seat.val < s.engine.seatCount := by
  cases hp : ev.piece with
  | none => simp [resolveSeat, hp]
  | some p => cases hs : p.seat <;> simp [resolveSeat, hp, hs, seatInPlay_eq_some]

/-- QUEST-OWNER names the owner of the home quest (R91). -/
theorem resolveSeat_questOwner {ev : Event} {home : Option (Fin 16)} : resolveSeat s .questOwner ev home = some seat ↔
    (∃ q, home = some q ∧ (s.quest q).definition.owner = some seat) ∧ seat.val < s.engine.seatCount := by
  cases home with
  | none => simp [resolveSeat]
  | some q => simp [resolveSeat, Option.bind_eq_some_iff, seatInPlay_eq_some]

end Seats

/-- Settles O50: each action on the seat it resolves to, and the selectors one by one. -/
theorem scoreActionsAddAndSubtractWithinRange : Obligations.ScoreActionsAddAndSubtractWithinRange := by
  intro s ev home sel n cond
  refine ⟨fun seat hs => ?_, fun hs => ⟨?_, ?_⟩, ?_, ?_, ?_, ?_⟩
  · have amount : (Score.ofNat n.val false).value = n.val := Score.ofNat_value _ _ (by omega)
    obtain ⟨up, upMark⟩ := scoreAdd_spec s.engine.scores[seat] (Score.ofNat n.val false)
    obtain ⟨down, downMark⟩ := scoreSub_spec s.engine.scores[seat] (Score.ofNat n.val false)
    rw [amount] at up upMark down downMark
    refine ⟨_, _, ?_, ?_, up, upMark, down, downMark⟩ <;> simp only [performAction, hs, performScore]
  · simp only [performAction, hs, performScore]
  · simp only [performAction, hs, performScore]
  · rintro seat rfl
    exact ⟨seatInPlay_eq_some.trans (and_iff_right rfl), seatInPlay_eq_none⟩
  · rintro rfl
    rfl
  · rintro seat rfl
    exact resolveSeat_pieceOwner
  · rintro seat rfl
    exact resolveSeat_questOwner

end Sys2Proof.Machine
end

section
/-! Counter arithmetic (R80 to R88): the exact result, the flags and the stored value of a COUNT action and of SET-IF, and
how the conditions read on the flags of a comparison. -/

namespace Sys2Proof.Machine

open Sys2Proof

/-! ### The flags of a value -/

section Flags

variable (value : Half) (v c k : Bool)

theorem flagsOf_n : (flagsOf value v c k).n = true ↔ value.toInt < 0 := by
  rw [flagsOf, BitVec.msb_eq_toInt, decide_eq_true_iff]

theorem flagsOf_z : (flagsOf value v c k).z = true ↔ value = 0 := beq_iff_eq

end Flags

theorem wrapped_eq_zero (e : Int) : wrapped e = 0 ↔ e.bmod 65536 = 0 := by
  rw [← wrapped_toInt, ← BitVec.toInt_inj]
  rfl

/-! ### The stored value (R83) -/

theorem clampTo_eq {k : Clamp} (ordered : k.lo.toInt ≤ k.hi.toInt) (e : Int) :
    clampTo k e = max k.lo.toInt (min k.hi.toInt e) := by
  unfold clampTo
  split
  · omega
  · split <;> omega

/-- A value stored through a clamp is the clamped one: the limits are 16-bit numbers themselves. -/
theorem storedValue_toInt {k : Clamp} (ordered : k.lo.toInt ≤ k.hi.toInt) (e : Int) :
    (storedValue (some k) e).toInt = clampTo k e := by
  obtain ⟨above, below⟩ := clampTo_within k e ordered
  have lo := k.lo.le_toInt
  have hi := k.hi.toInt_lt
  exact wrapped_of_range _ (by omega) (by omega)

/-- What is stored of an exact result, and whether the clamp changed it (R83). -/
theorem storedValue_spec (clamp : Option Clamp) (e : Int) :
    (clamp = none → (storedValue clamp e).toInt = e.bmod 65536 ∧ clampActed clamp e = false) ∧
      ∀ k, clamp = some k → k.lo.toInt ≤ k.hi.toInt →
        (storedValue clamp e).toInt = max k.lo.toInt (min k.hi.toInt e) ∧
          (clampActed clamp e = true ↔ (storedValue clamp e).toInt ≠ e) := by
  refine ⟨?_, ?_⟩
  · rintro rfl
    exact ⟨wrapped_toInt e, rfl⟩
  · rintro k rfl ordered
    rw [← clampTo_eq ordered, storedValue_toInt ordered]
    exact ⟨rfl, bne_iff_ne⟩

/-! ### COUNT actions (R82, R84) -/

section CountAction

variable (op : CountOp) (clamp : Option Clamp) (a b : Half)

theorem carryFlag_iff : carryFlag op a b = true ↔
    (op = .add ∧ 65536 ≤ a.toNat + b.toNat) ∨ ((op = .sub ∨ op = .cmp) ∧ a.toNat < b.toNat) := by
  cases op <;> simp [carryFlag]

theorem overflowFlag_iff : overflowFlag op a b = true ↔ exactResult op a b < -32768 ∨ 32767 < exactResult op a b := by
  simp only [overflowFlag, Bool.or_eq_true, decide_eq_true_iff]

/-- A comparison keeps the counter, and reads N and Z from the wrapped result. -/
theorem countAction_compares (h : op = .cmp ∨ op = .test) : countAction op clamp a b =
    (a, flagsOf (wrapped (exactResult op a b)) (overflowFlag op a b) (carryFlag op a b) false) := by
  rcases h with rfl | rfl <;> rfl

theorem countAction_stores (cmp : op ≠ .cmp) (test : op ≠ .test) : countAction op clamp a b =
    (storedValue clamp (exactResult op a b),
      flagsOf (storedValue clamp (exactResult op a b)) (overflowFlag op a b) (carryFlag op a b)
        (clampActed clamp (exactResult op a b))) := by
  cases op with
  | cmp => exact absurd rfl cmp
  | test => exact absurd rfl test
  | _ => rfl

theorem countAction_c : (countAction op clamp a b).2.c = carryFlag op a b := by cases op <;> rfl

theorem countAction_v : (countAction op clamp a b).2.v = overflowFlag op a b := by cases op <;> rfl

end CountAction

/-! ### The flags of a comparison (R87, R88) -/

section Guards

variable (a b : Half)

/-- The wrapped result of a comparison is the difference of the two patterns (R82). -/
theorem wrapped_sub : wrapped (a.toInt - b.toInt) = a - b := by
  rw [← BitVec.toInt_inj, wrapped_toInt, BitVec.toInt_sub]

theorem guardFlags_n : (guardFlags a b).n = true ↔ (a - b).toInt < 0 := by
  rw [← wrapped_sub]
  exact flagsOf_n ..

theorem guardFlags_z : (guardFlags a b).z = true ↔ a = b := by
  rw [← sub_eq_zero (a := a), ← wrapped_sub]
  exact flagsOf_z ..

theorem guardFlags_v : (guardFlags a b).v = true ↔ a.toInt - b.toInt < -32768 ∨ 32767 < a.toInt - b.toInt :=
  overflowFlag_iff .cmp a b

theorem guardFlags_c : (guardFlags a b).c = true ↔ a.toNat < b.toNat := decide_eq_true_iff

theorem guardFlags_k : (guardFlags a b).k = false := rfl

/-- N and V differ exactly when a is below b, both read signed: the difference of two 16-bit numbers leaves the 16-bit range
by one wrap at most. -/
theorem guardFlags_n_ne_v : (guardFlags a b).n ≠ (guardFlags a b).v ↔ a.toInt < b.toInt := by
  have difference : (a - b).toInt = (a.toInt - b.toInt).bmod 65536 := BitVec.toInt_sub ..
  have a_lo := a.le_toInt
  have a_hi := a.toInt_lt
  have b_lo := b.le_toInt
  have b_hi := b.toInt_lt
  rw [Ne, Bool.eq_iff_iff, guardFlags_n, guardFlags_v, difference, Int.bmod_def]
  split <;> omega

theorem guardFlags_n_eq_v : (guardFlags a b).n = (guardFlags a b).v ↔ b.toInt ≤ a.toInt := by
  rw [← not_iff_not, ← Ne, guardFlags_n_ne_v, Int.not_le]

end Guards

/-! ### The actions on the home quest, and the conditions -/

/-- SET-IF's value and flags (R85). -/
theorem setIfAction_eq (cond : Fin 16) (clamp : Option Clamp) (flags : Flags) {e : Int}
    (he : e = if condHolds cond flags = true then 1 else 0) : setIfAction cond clamp flags =
      (storedValue clamp e, flagsOf (storedValue clamp e) flags.v flags.c (clampActed clamp e)) := by
  rw [he]
  rfl

/-- 1 and 0 are 16-bit numbers: without a clamp they are stored as they are (R85). -/
theorem bmod_of_condition {p : Prop} [Decidable p] {e : Int} (he : e = if p then 1 else 0) : e.bmod 65536 = e := by
  rw [he]
  split <;> rfl

/-- Each of the sixteen conditions tests the flags that R87 names. -/
theorem condHolds_reads (f : Flags) :
    condHolds 0 f = true ∧ condHolds 1 f = f.z ∧ condHolds 2 f = !f.z ∧ condHolds 3 f = f.n ∧
    condHolds 4 f = !f.n ∧ condHolds 5 f = f.c ∧ condHolds 6 f = !f.c ∧ condHolds 7 f = f.v ∧ condHolds 8 f = !f.v ∧
    (condHolds 9 f = true ↔ f.c = false ∧ f.z = false) ∧ (condHolds 10 f = true ↔ f.c = true ∨ f.z = true) ∧
    (condHolds 11 f = true ↔ f.n = f.v) ∧ (condHolds 12 f = true ↔ f.n ≠ f.v) ∧
    (condHolds 13 f = true ↔ f.z = false ∧ f.n = f.v) ∧ (condHolds 14 f = true ↔ f.z = true ∨ f.n ≠ f.v) ∧
    condHolds 15 f = f.k := by
  obtain ⟨n, z, v, c, k⟩ := f
  revert n z v c k
  decide

theorem flag_clear_iff {x : Bool} {p : Prop} (h : x = true ↔ p) : x = false ↔ ¬ p := by rw [← h, Bool.not_eq_true]

/-- Settles O49: each kind of action by its equation; the conditions by the flags they test; and the flags of a comparison. -/
theorem counterActionsCompareAndClamp : Obligations.CounterActionsCompareAndClamp := by
  refine ⟨fun s ev q c o op cond a b e ha constant counter load add sub and or xor => ?_, fun s ev q c cond e he => ?_,
    condHolds_reads, fun a b => ?_⟩
  · have operand : b = countOperand (s.quest q) o := by
      cases o with
      | constant v => exact constant v rfl
      | counter j => exact counter j rfl
    have result : e = exactResult op a b := by
      cases op with
      | load => exact load rfl
      | add => exact add rfl
      | sub => exact sub (.inl rfl)
      | cmp => exact sub (.inr rfl)
      | and => exact and (.inl rfl)
      | test => exact and (.inr rfl)
      | or => exact or rfl
      | xor => exact xor rfl
    refine ⟨(countAction op ((s.quest q).definition.counters[c]).clamp a b).1,
      (countAction op ((s.quest q).definition.counters[c]).clamp a b).2, by rw [ha, operand]; rfl, ?_⟩
    generalize ((s.quest q).definition.counters[c]).clamp = clamp
    refine ⟨?_, ?_, fun compares => ?_, fun cmp test => ?_⟩
    · rw [countAction_c, carryFlag_iff]
    · rw [countAction_v, overflowFlag_iff, result]
    · rw [countAction_compares op clamp a b compares, ← result, flagsOf_n, flagsOf_z, wrapped_toInt, wrapped_eq_zero]
      exact ⟨rfl, rfl, Iff.rfl, Iff.rfl⟩
    · rw [countAction_stores op clamp a b cmp test, ← result]
      exact ⟨flagsOf_n .., flagsOf_z .., storedValue_spec clamp e⟩
  · refine ⟨_, _, rfl, ?_⟩
    generalize ((s.quest q).definition.counters[c]).clamp = clamp
    obtain ⟨free, clamped⟩ := storedValue_spec clamp e
    rw [bmod_of_condition he] at free
    rw [setIfAction_eq cond clamp (s.quest q).flags he]
    exact ⟨rfl, rfl, flagsOf_n .., flagsOf_z .., free, clamped⟩
  · obtain ⟨always, eq, ne, negative, positive, below, notBelow, overflow, fits, higher, lowerSame, greaterEqual, less,
      greater, lessEqual, clamped⟩ := condHolds_reads (guardFlags a b)
    have signed : a = b ↔ a.toInt = b.toInt := BitVec.toInt_inj.symm
    have unsigned : a = b ↔ a.toNat = b.toNat := BitVec.toNat_inj.symm
    simp only [eq, ne, negative, positive, below, notBelow, overflow, fits, higher, lowerSame, greaterEqual, less, greater,
      lessEqual, clamped, always, Bool.not_eq_true', flag_clear_iff (guardFlags_z a b), flag_clear_iff (guardFlags_n a b),
      flag_clear_iff (guardFlags_c a b), flag_clear_iff (guardFlags_v a b), guardFlags_z, guardFlags_n, guardFlags_c,
      guardFlags_v, guardFlags_n_eq_v, guardFlags_n_ne_v, guardFlags_k, true_and, and_true]
    refine ⟨Int.not_lt, by omega, Nat.not_lt, ?_, ?_, ?_, ?_⟩
    · rw [unsigned]
      omega
    · rw [unsigned, Nat.le_iff_lt_or_eq]
    · rw [signed]
      omega
    · rw [signed]
      omega

end Sys2Proof.Machine
end

section
/-! The code of rule memory: an entry written from a record reads clean (R141 to R143). -/

namespace Sys2Proof.Machine

open Sys2Proof

/-! ### Sums over the positions of an entry -/

section Sums

variable {e f : BitVec 233}

/-- The columns of stored positions are numbers of 8 bits (R142). -/
theorem column_lt (p : Nat) : column p < 2 ^ 8 := by
  unfold column
  have power (h : p ≤ 231) : 2 ^ (p - 224) < 2 ^ 8 := Nat.pow_lt_pow_right (by decide) (by omega)
  repeat' split
  all_goals omega

/-- Entries that agree below a position have the same column sum there. -/
theorem columnSum_congr {n : Nat} (h : ∀ p < n, e.getLsbD p = f.getLsbD p) : columnSum e n = columnSum f n := by
  induction n with
  | zero => rfl
  | succ n ih => simp only [columnSum, h n (Nat.lt_succ_self n), ih fun p hp => h p (Nat.lt_succ_of_lt hp)]

theorem oddOnes_congr {n : Nat} (h : ∀ p < n, e.getLsbD p = f.getLsbD p) : oddOnes e n = oddOnes f n := by
  induction n with
  | zero => rfl
  | succ n ih => simp only [oddOnes, h n (Nat.lt_succ_self n), ih fun p hp => h p (Nat.lt_succ_of_lt hp)]

theorem columnSum_lt (e : BitVec 233) (n : Nat) : columnSum e n < 2 ^ 8 := by
  induction n with
  | zero => exact Nat.two_pow_pos 8
  | succ n ih =>
    rw [columnSum]
    split
    · exact Nat.xor_lt_two_pow ih (column_lt n)
    · exact ih

/-- Each check position has its own bit as its column (R142). -/
theorem column_check {k : Nat} (h : k < 8) : column (224 + k) = 2 ^ k := by
  revert k
  decide

/-- The lowest bits of a number, with one more of them. -/
theorem mod_two_pow_succ_eq_xor (S k : Nat) : S % 2 ^ (k + 1) = S % 2 ^ k ^^^ if S.testBit k then 2 ^ k else 0 := by
  refine Nat.eq_of_testBit_eq fun j => ?_
  rcases Nat.lt_trichotomy j k with below | rfl | above
  · cases S.testBit k <;> simp [Nat.testBit_mod_two_pow, below, below.ne', below.trans]
  · cases set : S.testBit j <;> simp [Nat.testBit_mod_two_pow, set]
  · cases S.testBit k <;> simp [Nat.testBit_mod_two_pow, above.ne, above.not_gt, above.not_ge]

/-- Positions 224 to 231 hold the bits of a number in their columns: the k lowest of them add its k lowest bits (R142). -/
theorem columnSum_check {S : Nat} (h : ∀ k < 8, e.getLsbD (224 + k) = S.testBit k) {k : Nat} (hk : k ≤ 8) :
    columnSum e (224 + k) = columnSum e 224 ^^^ S % 2 ^ k := by
  induction k with
  | zero => rw [Nat.pow_zero, Nat.mod_one, Nat.xor_zero, Nat.add_zero]
  | succ k ih =>
    rw [← Nat.add_assoc, columnSum, h k hk, ih (Nat.le_of_succ_le hk), column_check hk, mod_two_pow_succ_eq_xor]
    split
    · rw [Nat.xor_assoc]
    · rw [Nat.xor_zero]

end Sums

/-! ### An encoded entry -/

section Encode

variable (data : BitVec 224)

/-- The data bits stand in positions 0 to 223, and the check bits, the sum of their columns, in 224 to 231 (R142). -/
def checkedEntry : BitVec 233 :=
  data.setWidth 233 ||| BitVec.ofNat 233 (columnSum (data.setWidth 233) 224) <<< 224

theorem encodeEntry_eq : encodeEntry data =
    if oddOnes (checkedEntry data) 232 then checkedEntry data ||| (1 : BitVec 233) <<< 232 else checkedEntry data := by
  unfold encodeEntry
  rfl

/-- Position p of the checked entry: the data bit, or the check bit of that position. -/
theorem checkedEntry_bit {p : Nat} (h : p < 233) : (checkedEntry data).getLsbD p =
    if p < 224 then data.getLsbD p else (columnSum (data.setWidth 233) 224).testBit (p - 224) := by
  simp only [checkedEntry, BitVec.getLsbD_or, BitVec.getLsbD_setWidth, BitVec.getLsbD_shiftLeft, BitVec.getLsbD_ofNat, h]
  split
  · next hp => simp [hp]
  · next hp =>
    have outside : data.getLsbD p = false := BitVec.getLsbD_of_ge data p (Nat.not_lt.mp hp)
    have inside : p - 224 < 233 := by omega
    simp [hp, outside, inside]

theorem checkedEntry_data {p : Nat} (h : p < 224) : (checkedEntry data).getLsbD p = (data.setWidth 233).getLsbD p := by
  have inside : p < 233 := by omega
  rw [checkedEntry_bit data inside, if_pos h, BitVec.getLsbD_setWidth, decide_eq_true inside, Bool.true_and]

theorem checkedEntry_check {k : Nat} (h : k < 9) :
    (checkedEntry data).getLsbD (224 + k) = (columnSum (data.setWidth 233) 224).testBit k := by
  rw [checkedEntry_bit data (by omega), if_neg (by omega), Nat.add_sub_cancel_left]

/-- Position 232 stands at 0 until the parity is set: the column sum has 8 bits. -/
theorem checkedEntry_parity : (checkedEntry data).getLsbD 232 = false :=
  (checkedEntry_check data (by decide : 8 < 9)).trans (Nat.testBit_lt_two_pow (columnSum_lt ..))

/-- The bit that makes an entry's ones even in number. -/
theorem parityBit_bit {p : Nat} (h : p < 233) : ((1 : BitVec 233) <<< 232).getLsbD p = decide (p = 232) := by
  have one : (1 : BitVec 233).getLsbD (p - 232) = true := by
    rw [show p - 232 = 0 by omega]
    rfl
  rw [BitVec.getLsbD_shiftLeft, one, decide_eq_true h, Bool.true_and, Bool.and_true, ← decide_not]
  exact decide_eq_decide.mpr (by omega)

/-- Below position 232 an encoded entry is its data and check bits (R142). -/
theorem encodeEntry_below {p : Nat} (h : p < 232) : (encodeEntry data).getLsbD p = (checkedEntry data).getLsbD p := by
  rw [encodeEntry_eq]
  split
  · rw [BitVec.getLsbD_or, parityBit_bit (by omega), decide_eq_false h.ne, Bool.or_false]
  · rfl

theorem encodeEntry_parity : (encodeEntry data).getLsbD 232 = oddOnes (checkedEntry data) 232 := by
  rw [encodeEntry_eq]
  split
  · next odd => rw [BitVec.getLsbD_or, parityBit_bit (by decide), odd, decide_eq_true rfl, Bool.or_true]
  · next even => rw [checkedEntry_parity, Bool.not_eq_true _ |>.mp even]

theorem parity_encodeEntry : parity (encodeEntry data) = false := by
  have below : oddOnes (encodeEntry data) 232 = oddOnes (checkedEntry data) 232 :=
    oddOnes_congr fun p hp => encodeEntry_below data hp
  unfold parity
  rw [oddOnes, below, encodeEntry_parity, Bool.xor_self]

theorem syndrome_encodeEntry : syndrome (encodeEntry data) = 0 := by
  have below : columnSum (encodeEntry data) 224 = columnSum (data.setWidth 233) 224 :=
    columnSum_congr fun p hp => (encodeEntry_below data (by omega)).trans (checkedEntry_data data hp)
  have check : ∀ k < 8, (encodeEntry data).getLsbD (224 + k) = (columnSum (data.setWidth 233) 224).testBit k :=
    fun k hk => (encodeEntry_below data (by omega)).trans (checkedEntry_check data (Nat.lt_succ_of_lt hk))
  have small : columnSum (data.setWidth 233) 224 < 2 ^ 8 := columnSum_lt ..
  unfold syndrome
  rw [show 232 = 224 + 8 from rfl, columnSum_check check (Nat.le_refl 8), below, Nat.mod_eq_of_lt small, Nat.xor_self]

/-- An entry that has been written from a record, with no bit changed since, reads clean (R142, R143). -/
theorem readOutcome_encodeEntry : readOutcome (encodeEntry data) = .clean := by
  simp [readOutcome, parity_encodeEntry, syndrome_encodeEntry]

end Encode

end Sys2Proof.Machine
end


section
/-! The setup values and the turn stay in range, and the counts of rule memory and its pending write-back consistent
(R96 to R100, R136, R144 to R149): the operations that touch them. -/

namespace Sys2Proof.Machine

open Sys2Proof

/-! ### Rule memory -/

section Memory

variable {s : State} {m : RuleMemory}

/-- The counts are within their limits, and a pending write-back is of an entry that reads clean (R146, R149). -/
def RuleMemory.InRange (m : RuleMemory) : Prop :=
  m.corrected ≤ 65535 ∧ m.uncorrectable ≤ 255 ∧ ∀ w, m.writeBack = some w → readOutcome w.entry = .clean

theorem State.memorySound_iff : s.memorySound ↔ s.memory.InRange := Iff.rfl

namespace RuleMemory.InRange

theorem write (h : m.InRange) (i : Fin 256) (e : BitVec 233) : (m.write i e).InRange := by
  obtain ⟨corrected, lost, pending⟩ := h
  exact ⟨corrected, lost, fun w hw => pending w ((m.write_writeBack i e w).mp hw).1⟩

/-- A correction, written at once or left to the scrubber's write-back, is of an encoded entry (R144, R149). -/
theorem correct (h : m.InRange) (found : FoundBy) (i : Fin 256) (data : BitVec 224) :
    (m.correct found i (encodeEntry data)).InRange := by
  cases found with
  | scan | read => exact h.write i _
  | scrub =>
    obtain ⟨corrected, lost, -⟩ := h
    refine ⟨corrected, lost, fun w hw => ?_⟩
    cases hw
    exact readOutcome_encodeEntry data

theorem captured (h : m.InRange) (c : Capture) : (m.captured c).InRange := by
  rcases m.captured_cases c with ⟨-, hc⟩ | ⟨-, hc⟩ <;> rw [hc] <;> exact h

theorem endVisit (h : m.InRange) : m.endVisit.InRange := by
  obtain ⟨corrected, lost, pending⟩ := h
  unfold RuleMemory.endVisit
  split
  · exact ⟨corrected, lost, nofun⟩
  · exact ⟨corrected, lost, pending⟩

theorem countCorrected (h : m.InRange) : { m with corrected := saturate 65535 m.corrected }.InRange := by
  obtain ⟨corrected, lost, pending⟩ := h
  exact ⟨saturate_le _ _ corrected, lost, pending⟩

theorem countLost (h : m.InRange) : { m with uncorrectable := saturate 255 m.uncorrectable }.InRange := by
  obtain ⟨corrected, lost, pending⟩ := h
  exact ⟨corrected, saturate_le _ _ lost, pending⟩

theorem cleared (h : m.InRange) : { m with capture := none, corrected := 0, uncorrectable := 0 }.InRange := by
  obtain ⟨-, -, pending⟩ := h
  exact ⟨Nat.zero_le _, Nat.zero_le _, pending⟩

end RuleMemory.InRange

end Memory

/-! ### What keeps the ranges -/

/-- From `s` to `t` the setup values and the turn stay in range, and so does rule memory. -/
structure State.KeepsRanges (s t : State) : Prop where
  setup : s.setupSound → t.setupSound
  memory : s.memory.InRange → t.memory.InRange

/-- The seat count, the turn seat, the high mark, and rule memory. -/
def State.rangeView (s : State) : Nat × Fin 6 × Nat × RuleMemory :=
  (s.engine.seatCount, s.engine.turn, s.engine.highMark, s.memory)

namespace State.KeepsRanges

variable {s t u : State}

theorem refl (s : State) : s.KeepsRanges s := ⟨id, id⟩

theorem trans (h : s.KeepsRanges t) (hu : t.KeepsRanges u) : s.KeepsRanges u := ⟨hu.setup ∘ h.setup, hu.memory ∘ h.memory⟩

theorem of_view (h : t.rangeView = s.rangeView) : s.KeepsRanges t := by
  simp only [State.rangeView, Prod.mk.injEq] at h
  obtain ⟨seats, turn, mark, memory⟩ := h
  exact ⟨fun hs => by rwa [State.setupSound, seats, turn, mark], fun hs => by rwa [memory]⟩

/-- What goes before and does not touch the ranges is nothing to them. -/
theorem behind (hu : t.KeepsRanges u) (h : t.rangeView = s.rangeView) : s.KeepsRanges u := (of_view h).trans hu

theorem of_engine_memory (engine : t.engine = s.engine) (memory : t.memory = s.memory) : s.KeepsRanges t :=
  of_view (by rw [State.rangeView, engine, memory]; rfl)

theorem withMemory {m : RuleMemory} (h : s.memory.InRange → m.InRange) : s.KeepsRanges (s.withMemory m) := ⟨id, h⟩

/-- The turn goes to a seat in play (R96 to R99). -/
theorem withTurn {n : Fin 6} (h : s.setupSound → n.val < s.engine.seatCount) :
    s.KeepsRanges (s.withEngine { s.engine with turn := n }) := by
  refine ⟨fun sound => ?_, id⟩
  have inPlay := h sound
  obtain ⟨seats, most, -, mark⟩ := sound
  exact ⟨seats, most, inPlay, mark⟩

/-- Every reset leaves the values of power-on (R140). -/
theorem of_reset (engine : t.engine = State.reset.engine) (memory : t.memory = State.reset.memory) : s.KeepsRanges t := by
  obtain ⟨setup, -, -, -, -, sound, -⟩ := resetStateIsSound
  exact ⟨fun _ => by rwa [State.setupSound, engine], fun _ => by rwa [memory]⟩

theorem of_port (h : s.WithinPort t) : s.KeepsRanges t := by
  obtain ⟨u, n, p, rfl⟩ := h
  exact of_view rfl

theorem of_pair {i : ArmId} (h : s.WithinPair i t) : s.KeepsRanges t := by
  obtain ⟨-, engine, -, memory, -⟩ := h.rest
  exact of_engine_memory engine memory

theorem of_arm {i : ArmId} (h : s.WithinArm i t) : s.KeepsRanges t := of_pair h.withinPair

theorem withArm (s : State) (i : ArmId) (x : Arm) : s.KeepsRanges (s.withArm i x) := of_arm ((State.WithinArm.refl s i).withArm x)

theorem enqueue (s : State) (i : ArmId) (e : EffectEntry) : s.KeepsRanges (s.enqueue i e) := by
  rw [State.enqueue_eq]
  exact withArm s i _

/-! ### Checked reads and the scrubber (R144, R145, R148, R149) -/

theorem checkedRead (found : FoundBy) (i : Fin 256) (s : State) : s.KeepsRanges (checkedRead found i s).1 := by
  rcases checkedRead_cases found i s with ⟨-, hr⟩ | ⟨p, -, hr⟩ | ⟨-, hr⟩ <;> rw [hr]
  · exact refl s
  · exact withMemory fun h => (h.countCorrected.captured _).correct found i _
  · exact ⟨id, fun h => h.countLost.captured _⟩

theorem scrubSlot (s : State) : s.KeepsRanges s.scrubSlot := by
  have ended : s.KeepsRanges (s.withMemory s.memory.endVisit) := withMemory RuleMemory.InRange.endVisit
  have advanced (t : State) : t.KeepsRanges (t.withMemory t.memory.advance) := withMemory id
  unfold State.scrubSlot State.scrubVisit
  simp only []
  split
  · refine trans ?_ (advanced _)
    split
    · exact ended.trans (checkedRead .scrub _ _)
    · exact ended
  · exact ended

/-! ### Quests and timers -/

theorem activate (s : State) (q : Fin 16) : s.KeepsRanges (s.activate q) := by
  unfold State.activate
  simp only []
  split <;> exact of_view rfl

theorem tickTimer (s : State) (q : Fin 16) : s.KeepsRanges (s.tickTimer q) := by
  unfold State.tickTimer
  simp only []
  split
  · split <;> exact of_view rfl
  · exact refl s

theorem tickAll (s : State) (l : List (Fin 16)) : s.KeepsRanges (s.tickAll l) := by
  induction l generalizing s with
  | nil => exact refl s
  | cons q rest ih => exact (tickTimer s q).trans (ih _)

/-! ### Actions (R132) -/

/-- TURN-NEXT and TURN-SET leave the turn at a seat in play (R97, R98). -/
theorem performTurn {n : Fin 6} (h : s.setupSound → n.val < s.engine.seatCount) : s.KeepsRanges (performTurn s n) :=
  (withTurn h).trans (of_view rfl)

theorem nextSeat_inPlay (h : s.setupSound) : (nextSeat s.engine).val < s.engine.seatCount := by
  obtain ⟨seats, most, -⟩ := h
  rw [nextSeat_val seats most]
  exact Nat.mod_lt _ seats

theorem clampSeat_inPlay (h : s.setupSound) (n : Fin 6) : (clampSeat s.engine n).val < s.engine.seatCount := by
  obtain ⟨seats, most, -⟩ := h
  rw [clampSeat_val seats most]
  omega

theorem performEffect (s : State) (e : Effect) (target : EffectTarget) (ev : Event) :
    s.KeepsRanges (performEffect s e target ev) := by
  have toTile (i : ArmId) (p : Fin 32) : s.KeepsRanges (effectToTile s i p e) := by
    unfold effectToTile
    split
    · exact enqueue s i _
    · exact refl s
  unfold Machine.performEffect
  split
  · split
    · exact toTile _ _
    · exact refl s
    · exact refl s
  · exact toTile _ _
  · exact (enqueue s _ _).trans (enqueue _ _ _)
  · exact (enqueue s _ _).trans (enqueue _ _ _)

theorem performScore (s : State) (f : Score → Score → Score) (seat : Option (Fin 6)) (amount : Fin 10000) :
    s.KeepsRanges (performScore s f seat amount) := by
  unfold Machine.performScore
  split
  · exact refl s
  · exact of_view rfl

theorem performStageAdvance (s : State) (q : Fin 16) : s.KeepsRanges (performStageAdvance s q) := by
  unfold Machine.performStageAdvance
  simp only []
  split <;> exact of_view rfl

theorem performQuestStart {q : Fin 16} (ht : performQuestStart s q = .done t) : s.KeepsRanges t := by
  unfold Machine.performQuestStart at ht
  repeat' split at ht
  all_goals cases ht
  · exact refl s
  · exact (activate s q).trans (of_view rfl)

theorem performAction {ev : Event} {home : Option (Fin 16)} {a : Action} (ht : performAction s ev home a = .done t) :
    s.KeepsRanges t := by
  have ofHome {f : Fin 16 → State} (hf : ∀ q, s.KeepsRanges (f q)) (hd : onHome s home f = .done t) : s.KeepsRanges t := by
    rcases onHome_cases hd with rfl | ⟨q, rfl⟩
    · exact refl t
    · exact hf q
  unfold Machine.performAction at ht
  cases hk : a.kind <;> rw [hk] at ht <;> simp only [] at ht
  case count | setIf | stageSet | questComplete | questFail | timerStart | timerStop =>
    refine ofHome (fun _ => of_view ?_) ht
    rfl
  case stageAdvance => exact ofHome (performStageAdvance s) ht
  case questStart => exact performQuestStart ht
  all_goals cases ht
  case scoreAdd | scoreSub => exact performScore s _ _ _
  case effect => exact performEffect s _ _ ev
  case turnNext => exact performTurn nextSeat_inPlay
  case turnSet n => exact performTurn fun h => clampSeat_inPlay h n
  case signal | ruleEnable | ruleDisable => exact of_view rfl

theorem runAction {ev : Event} {home : Option (Fin 16)} {a : Action} (ht : runAction s ev home a = .done t) :
    s.KeepsRanges t := by
  rcases runAction_done ht with rfl | performed
  · exact refl t
  · exact performAction performed

end State.KeepsRanges

end Sys2Proof.Machine
end

section
/-! Every command keeps the setup values, the turn and rule memory in range (R96 to R100, R136, R144 to R149). -/

namespace Sys2Proof.Machine

open Sys2Proof

/-! ### The requests -/

/-- An item that keeps the ranges. -/
def keepsRanges (item : List Byte → State → State × Reply) : Prop :=
  ∀ (body : List Byte) (s : State), s.KeepsRanges (item body s).1

theorem keepsRanges_setup : keepsRanges setupItem := by
  intro body s
  unfold setupItem
  split
  · exact .refl s
  · next r hr =>
    obtain ⟨⟨seats, most, low, high⟩, -⟩ := parseSetup_eq_some.mp hr
    refine ⟨fun _ => ⟨seats, most, ?_, low, high⟩, id⟩
    simp only [State.withEngine_engine]
    split
    · assumption
    · exact seats

theorem keepsRanges_turnSet : keepsRanges turnSetItem := by
  intro body s
  unfold turnSetItem
  split
  · exact .refl s
  · split
    · next inPlay => exact .withTurn fun _ => inPlay
    · exact .refl s

theorem keepsRanges_diagCapture : keepsRanges diagCaptureItem := by
  intro body s
  unfold diagCaptureItem
  split
  · exact .withMemory RuleMemory.InRange.cleared
  · exact .refl s

theorem State.KeepsRanges.writeRule (s : State) (i : Fin 256) (e : BitVec 233) (r : RuleState) :
    s.KeepsRanges (s.writeRule i e r) :=
  ⟨id, fun h => h.write i e⟩

theorem keepsRanges_ruleWrite : keepsRanges ruleWriteItem := by
  intro body s
  unfold ruleWriteItem
  split
  · exact .refl s
  · exact .writeRule s _ _ _

theorem keepsRanges_rawWrite : keepsRanges rawWriteItem := by
  intro body s
  unfold rawWriteItem
  split
  · exact .refl s
  · exact .writeRule s _ _ _

theorem keepsRanges_ruleRead : keepsRanges ruleReadItem := by
  intro body s
  unfold ruleReadItem
  split
  · exact .refl s
  · next i _ =>
    simp only []
    split <;> exact .checkedRead .read i s

theorem keepsRanges_questStart : keepsRanges questStartItem := by
  intro body s
  unfold questStartItem
  split
  · exact .refl s
  split
  · exact .refl s
  split
  · exact .refl s
  · split
    · exact .activate s _
    · exact .refl s

/-- Every request that touches neither an arm nor the uplink port; most have outcomes that touch no range at all. -/
theorem EngineItem.keepsRanges {item : List Byte → State → State × Reply} (hi : EngineItem item) : keepsRanges item := by
  cases hi with
  | setup => exact keepsRanges_setup
  | turnSet => exact keepsRanges_turnSet
  | diagCapture => exact keepsRanges_diagCapture
  | ruleWrite => exact keepsRanges_ruleWrite
  | rawWrite => exact keepsRanges_rawWrite
  | ruleRead => exact keepsRanges_ruleRead
  | questStart => exact keepsRanges_questStart
  | identify | scoreRead => exact fun _ s => .refl s
  | armStatus | tileRead | rawRead | questRead | ruleEnable | ruleDisable | questWrite | questAbort | scoreSet | inject
  | engineHold | engineRun =>
    intro body s
    refine .of_view ?_
    simp only [armStatusItem, tileReadItem, rawReadItem, questReadItem, ruleEnableItem, ruleDisableItem, questWriteItem,
      questAbortItem, scoreSetItem, injectItem, engineHoldItem, engineRunItem]
    repeat' split
    all_goals rfl

theorem keepsRanges_directItem {kind : Byte} {item : List Byte → State → State × Reply} (hd : directItem kind = some item) :
    keepsRanges item := by
  unfold directItem at hd
  split at hd <;> cases hd
  · exact EngineItem.identify.keepsRanges
  · exact EngineItem.armStatus.keepsRanges
  · exact EngineItem.tileRead.keepsRanges
  · intro body s
    unfold armStartItem
    split
    · exact .refl s
    · split
      · exact .refl s
      · exact .withArm s _ _
  · intro body s
    unfold armStopItem
    split
    · exact .refl s
    · exact .withArm s _ _
  · intro body s
    unfold dozeItem
    split <;> exact .of_view rfl
  · exact EngineItem.diagCapture.keepsRanges

theorem keepsRanges_tileWrite : keepsRanges tileWriteItem := by
  intro body s
  unfold tileWriteItem State.tileWritten
  split
  · exact .refl s
  · next k r _ =>
    have stored (x : Arm) : s.KeepsRanges ((s.withTileMap (s.tileMap.set k r)).withArm (indexArm k) x) :=
      (State.KeepsRanges.withArm _ _ x).behind rfl
    have moved (t : State) : t.KeepsRanges (t.bring (indexArm k)) := .of_arm (State.WithinArm.refl t _).bring
    simp only []
    split
    · exact (stored _).trans (.of_view rfl)
    · exact ((stored _).trans (moved _)).trans (.of_view rfl)

theorem keepsRanges_effectSend : keepsRanges effectSendItem := by
  intro body s
  unfold effectSendItem
  split
  · exact .refl s
  split
  · exact .refl s
  split
  · exact .refl s
  · exact .enqueue s _ _

/-- GAME-RESET gives the turn to seat 0, which is always in play (R96, R139). -/
theorem keepsRanges_gameReset : keepsRanges gameResetItem := by
  intro body s
  unfold gameResetItem
  split
  · refine ⟨fun sound => ?_, id⟩
    obtain ⟨seats, most, -, mark⟩ := sound
    exact ⟨seats, most, seats, mark⟩
  · exact .refl s

section Served

variable {s : State} {item : List Byte → State → State × Reply}

theorem keepsRanges.serveDirect (hi : keepsRanges item) (body : List Byte) (s : State) :
    s.KeepsRanges (serveDirect item body s) := by
  rcases serveDirect_cases item body s with ⟨-, hs⟩ | ⟨-, hs⟩ <;> rw [hs]
  · exact (hi body s).trans (.of_view rfl)
  · exact .refl s

theorem keepsRanges.serveItem (hi : keepsRanges item) (kind : Byte) (body : List Byte) (s : State) :
    s.KeepsRanges (serveItem kind item body s) := by
  rcases serveItem_cases kind item body s with ⟨-, hs⟩ | ⟨-, hs⟩ <;> rw [hs]
  · have taken : s.KeepsRanges (s.take (.management kind body)) := .of_view rfl
    exact (taken.trans (hi body _)).trans (.of_view rfl)
  · exact .refl s

theorem State.KeepsRanges.decodeRequest (s : State) (kind : Byte) (body : List Byte) :
    s.KeepsRanges (s.decodeRequest kind body) := by
  unfold State.decodeRequest
  split
  · next item hd => exact (keepsRanges_directItem hd body s).trans (.of_view rfl)
  · split <;> exact .of_view rfl

end Served

/-! ### All commands but the takes of event items -/

theorem exec_keepsRanges_of_not_take (s : State) {c : Instr} (takes : ¬ takesEvent c) :
    ∃ t, exec c s = .next t ∧ s.KeepsRanges t := by
  have port {t : State} (ht : s.WithinPort t) : s.KeepsRanges t := .of_port ht
  have same : s.WithinPort s := .refl s
  have direct {item : List Byte → State → State × Reply} (hi : keepsRanges item) (body : List Byte) :
      s.KeepsRanges (serveDirect item body s) := hi.serveDirect body s
  have served {item : List Byte → State → State × Reply} (hi : keepsRanges item) (kind : Byte) (body : List Byte) :
      s.KeepsRanges (serveItem kind item body s) := hi.serveItem kind body s
  have pair {c : Instr} {i : ArmId} (hc : Instr.armOf c = some i) : ∃ t, exec c s = .next t ∧ s.KeepsRanges t := by
    obtain ⟨t, ht, only⟩ := exec_withinPair hc s
    exact ⟨t, ht, .of_pair only⟩
  simp only [takesEvent, not_or] at takes
  obtain ⟨tile, expiry, injected⟩ := takes
  cases c with
  | tileEventTake => exact absurd rfl tile
  | expiryTake => exact absurd rfl expiry
  | injectTake => exact absurd rfl injected
  | powerOn | resetLine => exact ⟨_, rfl, .of_reset rfl rfl⟩
  | rstnRelease =>
    refine ⟨_, rfl, ?_⟩
    split
    · exact .of_reset rfl rfl
    · exact .refl s
  | uplinkByteReceived b ok => exact ⟨_, rfl, port (same.receive b ok)⟩
  | holdReceived ok => exact ⟨_, rfl, port (same.receive 0xF1 ok)⟩
  | goReceived ok => exact ⟨_, rfl, port (same.receive 0xF2 ok)⟩
  | partialFrameTimeout =>
    refine ⟨_, rfl, port ?_⟩
    split
    · exact same.garble .idle
    · exact same
  | discardQuiet | flowByteSend =>
    refine ⟨_, rfl, port ?_⟩
    split
    · exact same.withUplink _
    · exact same
  | transmitFrameStart =>
    refine ⟨_, rfl, port ?_⟩
    split
    · exact same.startFrame
    · exact same
  | transmitFrameEnd =>
    refine ⟨_, rfl, port ?_⟩
    split
    · exact (same.withUplink _).frameSent _
    · exact same
  | requestTake =>
    refine ⟨_, rfl, ?_⟩
    split
    · exact (port (same.withUplink _)).trans (.decodeRequest _ _ _)
    · exact .refl s
  | identify body => exact ⟨_, rfl, direct EngineItem.identify.keepsRanges body⟩
  | armStatus body => exact ⟨_, rfl, direct EngineItem.armStatus.keepsRanges body⟩
  | tileRead body => exact ⟨_, rfl, direct EngineItem.tileRead.keepsRanges body⟩
  | armStart body => exact ⟨_, rfl, direct (keepsRanges_directItem (kind := 0x04) rfl) body⟩
  | armStop body => exact ⟨_, rfl, direct (keepsRanges_directItem (kind := 0x05) rfl) body⟩
  | doze body => exact ⟨_, rfl, direct (keepsRanges_directItem (kind := 0x06) rfl) body⟩
  | diagCapture body => exact ⟨_, rfl, direct EngineItem.diagCapture.keepsRanges body⟩
  | setup body => exact ⟨_, rfl, served EngineItem.setup.keepsRanges 0x08 body⟩
  | tileWrite body => exact ⟨_, rfl, served keepsRanges_tileWrite 0x09 body⟩
  | ruleWrite body => exact ⟨_, rfl, served EngineItem.ruleWrite.keepsRanges 0x0A body⟩
  | ruleRead body => exact ⟨_, rfl, served EngineItem.ruleRead.keepsRanges 0x0B body⟩
  | ruleEnable body => exact ⟨_, rfl, served EngineItem.ruleEnable.keepsRanges 0x0C body⟩
  | ruleDisable body => exact ⟨_, rfl, served EngineItem.ruleDisable.keepsRanges 0x0D body⟩
  | rawRead body => exact ⟨_, rfl, served EngineItem.rawRead.keepsRanges 0x0E body⟩
  | rawWrite body => exact ⟨_, rfl, served EngineItem.rawWrite.keepsRanges 0x0F body⟩
  | questWrite body => exact ⟨_, rfl, served EngineItem.questWrite.keepsRanges 0x10 body⟩
  | questRead body => exact ⟨_, rfl, served EngineItem.questRead.keepsRanges 0x11 body⟩
  | questStart body => exact ⟨_, rfl, served EngineItem.questStart.keepsRanges 0x12 body⟩
  | questAbort body => exact ⟨_, rfl, served EngineItem.questAbort.keepsRanges 0x13 body⟩
  | scoreSet body => exact ⟨_, rfl, served EngineItem.scoreSet.keepsRanges 0x14 body⟩
  | scoreRead body => exact ⟨_, rfl, served EngineItem.scoreRead.keepsRanges 0x15 body⟩
  | turnSet body => exact ⟨_, rfl, served EngineItem.turnSet.keepsRanges 0x16 body⟩
  | effectSend body => exact ⟨_, rfl, served keepsRanges_effectSend 0x17 body⟩
  | inject body => exact ⟨_, rfl, served EngineItem.inject.keepsRanges 0x18 body⟩
  | engineHold body => exact ⟨_, rfl, served EngineItem.engineHold.keepsRanges 0x19 body⟩
  | engineRun body => exact ⟨_, rfl, served EngineItem.engineRun.keepsRanges 0x1A body⟩
  | gameReset body => exact ⟨_, rfl, served keepsRanges_gameReset 0x1B body⟩
  | questTick =>
    refine ⟨_, rfl, ?_⟩
    split
    · exact .tickAll s _
    · exact .refl s
  | questTimerExpiry q =>
    refine ⟨_, rfl, ?_⟩
    split
    · exact .tickTimer s q
    · exact .refl s
  | scrubSlot =>
    refine ⟨_, rfl, ?_⟩
    split
    · exact .scrubSlot s
    · exact .refl s
  | scrubWriteBack =>
    refine ⟨_, rfl, ?_⟩
    split
    · exact .withMemory RuleMemory.InRange.endVisit
    · exact .refl s
  | bitUpset i p => exact ⟨_, rfl, .withMemory id⟩
  | pollSend i | effectFrameSend i | assignSend i | effectFrameEnd i | assignEnd i | pollAnswer i _ | replyWindowClose i
  | strayFrame i _ | dozeWaitEnd i | emptyRotationWaitEnd i => exact pair rfl

/-! ### Event items -/

namespace State.KeepsRanges

variable {s t : State}

theorem besides (c : Instr) (s : State) : s.KeepsRanges (besides c s) := by
  rcases besides_eq c s with h | ⟨takes, h⟩
  · rw [h]
    exact refl s
  · obtain ⟨t, ht, kept⟩ := exec_keepsRanges_of_not_take s takes
    rwa [Host.Outcome.next.inj (h.symm.trans ht)]

theorem fireRule (asides : List Aside) (ev : Event) (i : Fin 256) (r : RuleRecord) (s : State) :
    s.KeepsRanges (fireRule asides ev i r s) := by
  refine runActions_induct asides s.KeepsRanges ev i r.home (fun c t h => h.trans (besides c t))
    (fun t a u h ht => h.trans (runAction ht)) (fun t al h => h.trans (of_view rfl)) r.actions 1 _ ?_
  split
  · exact of_view rfl
  · exact refl s

/-- A whole event item, with what the other blocks do meanwhile (R110, R119, R128, R130). -/
theorem runEvent (asides : List Aside) (ev : Event) (s : State) : s.KeepsRanges (runEvent asides ev s) := by
  have step (c : Instr) (t : State) (h : s.KeepsRanges t) : s.KeepsRanges (Machine.besides c t) := h.trans (besides c t)
  have scanned : s.KeepsRanges (scanRules asides ev 0 s allRules).1 :=
    scanRules_induct asides s.KeepsRanges ev step (fun t i h => h.trans (checkedRead .scan i t))
      (fun t i r h => h.trans (fireRule asides ev i r t)) allRules 0 s (refl s)
  have now := during_induct asides s.KeepsRanges step .echo _ scanned
  unfold Machine.runEvent
  simp only []
  split <;> exact now.trans (of_view rfl)

theorem runExpiry (s : State) (q : Fin 16) : s.KeepsRanges (s.runExpiry q) := by
  unfold State.runExpiry
  simp only []
  split
  · exact of_view rfl
  · exact (runEvent _ _ _).behind rfl

end State.KeepsRanges

theorem exec_keepsRanges (c : Instr) (s : State) : ∃ t, exec c s = .next t ∧ s.KeepsRanges t := by
  by_cases takes : takesEvent c
  · rcases takes with rfl | rfl | rfl
    all_goals
      refine ⟨_, rfl, ?_⟩
      split
    · exact (State.KeepsRanges.withArm s _ _).trans ((State.KeepsRanges.runEvent _ _ _).behind rfl)
    · exact .refl s
    · exact .runExpiry s _
    · exact .refl s
    · exact (State.KeepsRanges.runEvent _ _ _).behind rfl
    · exact .refl s
  · exact exec_keepsRanges_of_not_take s takes

/-- Settles O6: an idle step changes nothing, and every command keeps both ranges. -/
theorem setupAndRuleMemoryStayInRange : Obligations.SetupAndRuleMemoryStayInRange := by
  have kept {s t : State} (h : step s = .next t) : s.KeepsRanges t := by
    unfold step at h
    split at h
    · cases h
      exact .refl s
    · next c rest _ =>
      obtain ⟨u, hu, runs⟩ := exec_keepsRanges c (s.withPending rest)
      rw [Host.Outcome.next.inj (h.symm.trans hu)]
      exact runs.behind rfl
  exact ⟨fun s t sound h => (kept h).setup sound, fun s t sound h =>
    State.memorySound_iff.mpr ((kept h).memory (State.memorySound_iff.mp sound))⟩

end Sys2Proof.Machine
end

section
/-! The requests on the rule table: RULE-WRITE, RULE-READ and the host's RULE-ENABLE and RULE-DISABLE (R104 to R108, R144,
R145, R151, R184). -/

namespace Sys2Proof.Machine

open Sys2Proof

/-! ### The bytes of a stored record (R141, R142, R184) -/

section Bytes

variable (data : BitVec 224) (b : Byte) (bytes : List Byte)

theorem recordByte_bit (n : Nat) {k : Nat} (hk : k < 8) : (recordByte data n).getLsbD k = data.getLsbD (8 * n + k) := by
  simp [recordByte, hk]

theorem packRecord_cons : packRecord (b :: bytes) = packRecord bytes <<< 8 ||| b.setWidth 224 := rfl

theorem recordByte_packRecord_zero : recordByte (packRecord (b :: bytes)) 0 = b := by
  refine BitVec.eq_of_getLsbD_eq fun k hk => ?_
  have inside : k < 224 := by omega
  rw [recordByte_bit _ 0 hk, packRecord_cons, Nat.mul_zero, Nat.zero_add]
  simp [-BitVec.getLsbD_eq_getElem, hk, inside]

theorem recordByte_packRecord_succ {n : Nat} (h : n + 1 < 28) :
    recordByte (packRecord (b :: bytes)) (n + 1) = recordByte (packRecord bytes) n := by
  refine BitVec.eq_of_getLsbD_eq fun k hk => ?_
  have inside : 8 * (n + 1) + k < 224 := by omega
  have above : ¬ 8 * (n + 1) + k < 8 := by omega
  have shifted : 8 * (n + 1) + k - 8 = 8 * n + k := by omega
  have outside : b.getLsbD (8 * (n + 1) + k) = false := BitVec.getLsbD_of_ge b _ (Nat.not_lt.mp above)
  rw [recordByte_bit _ _ hk, recordByte_bit _ n hk, packRecord_cons]
  simp [-BitVec.getLsbD_eq_getElem, inside, above, shifted, outside]

/-- A packed record holds the bytes it was packed from, and zero bytes behind them (R184). -/
theorem recordByte_packRecord {n : Nat} (h : n < 28) : recordByte (packRecord bytes) n = byteAt bytes n := by
  induction bytes generalizing n with
  | nil => exact BitVec.eq_of_getLsbD_eq fun k hk => by simp [recordByte_bit _ n hk, packRecord, byteAt]
  | cons b rest ih =>
    cases n with
    | zero => exact recordByte_packRecord_zero b rest
    | succ n => exact (recordByte_packRecord_succ b rest h).trans (ih (by omega))

theorem unpackRecord_packRecord (h : bytes.length ≤ 28) :
    unpackRecord (packRecord bytes) = bytes ++ List.replicate (28 - bytes.length) 0 := by
  refine List.ext_getElem (by simp [unpackRecord]; omega) fun n hn _ => ?_
  have small : n < 28 := by simpa [unpackRecord] using hn
  simp only [unpackRecord, List.getElem_map, List.getElem_range, recordByte_packRecord bytes small, byteAt,
    List.getElem_append]
  split
  · next inside => simp [inside]
  · next outside => simp [outside]

/-- The data bits of an entry are those of the record it was written from (R142). -/
theorem entryData_encodeEntry : entryData (encodeEntry data) = data := by
  refine BitVec.eq_of_getLsbD_eq fun p hp => ?_
  rw [entryData, BitVec.getLsbD_setWidth, encodeEntry_below data (by omega), checkedEntry_bit data (by omega), if_pos hp,
    decide_eq_true hp, Bool.true_and]

end Bytes

/-! ### What a checked read does to the state (R144, R145) -/

section Outcomes

variable {s : State} {i : Fin 256} {found : FoundBy}

theorem checkedRead_clean (h : readOutcome s.memory.entries[i] = .clean) :
    checkedRead found i s = (s, some (entryData s.memory.entries[i])) := by
  simp only [checkedRead, h]

theorem checkedRead_oneChanged {p : Fin 233} (h : readOutcome s.memory.entries[i] = .oneChanged p) :
    checkedRead found i s = (s.noteCorrected found i p (encodeEntry (entryData (flipBit s.memory.entries[i] p))),
      some (entryData (flipBit s.memory.entries[i] p))) := by
  simp only [checkedRead, h]

theorem checkedRead_twoChanged (h : readOutcome s.memory.entries[i] = .twoChanged) :
    checkedRead found i s = (s.noteLost found i, none) := by
  simp only [checkedRead, h]

/-- The item in flight is nothing to a checked read. -/
theorem checkedRead_take (w : WorkItem) :
    checkedRead found i (s.take w) = ((checkedRead found i s).1.take w, (checkedRead found i s).2) := by
  cases h : readOutcome s.memory.entries[i] with
  | clean => rw [checkedRead_clean h, checkedRead_clean (s := s.take w) h]; rfl
  | oneChanged p => rw [checkedRead_oneChanged h, checkedRead_oneChanged (s := s.take w) h]; rfl
  | twoChanged => rw [checkedRead_twoChanged h, checkedRead_twoChanged (s := s.take w) h]; rfl

end Outcomes

section CheckedRead

variable (s : State) (i : Fin 256)

/-- A state keeps a rule's state when that is written again. -/
theorem State.withRule_rule : s.withRule i (s.rule i) = s := by
  simp [State.withRule, Engine.withRule, State.rule, State.withEngine]

theorem saturate_eq_min (limit n : Nat) : saturate limit n = min (n + 1) (max n limit) := by
  unfold saturate
  split <;> omega

theorem RuleMemory.captured_eq (m : RuleMemory) (c : Capture) :
    m.captured c = { m with capture := some (m.capture.getD c) } := by
  rcases m.captured_cases c with ⟨empty, h⟩ | ⟨⟨d, full⟩, h⟩
  · rw [h, empty]; rfl
  · rw [h, full]
    cases m
    cases full
    rfl

theorem RuleMemory.write_eq (m : RuleMemory) (e : BitVec 233) :
    m.write i e = { m with entries := m.entries.set i e, writeBack := m.writeBack.filter fun w => w.rule ≠ i } := by
  unfold RuleMemory.write
  cases h : m.writeBack with
  | none => rfl
  | some w => by_cases hw : w.rule = i <;> simp [hw, Option.filter]

/-- The correction of a scan fetch or a RULE-READ is written at once, counted and captured (R144). -/
theorem State.noteCorrected_written {found : FoundBy} (h : found = .scan ∨ found = .read) (p : Fin 233) (fixed : BitVec 233) :
    s.noteCorrected found i p fixed = s.withMemory { s.memory with
      entries := s.memory.entries.set i fixed,
      corrected := min (s.memory.corrected + 1) (max s.memory.corrected 65535),
      capture := some (s.memory.capture.getD ⟨.corrected p, i, found⟩),
      writeBack := s.memory.writeBack.filter fun w => w.rule ≠ i } := by
  have written (m : RuleMemory) : m.correct found i fixed = m.write i fixed := by rcases h with rfl | rfl <;> rfl
  simp only [State.noteCorrected, written, RuleMemory.captured_eq, RuleMemory.write_eq, saturate_eq_min]

theorem quarantined_eq (r : RuleState) : quarantined r = if r = .empty then .empty else .quarantined := by
  cases r <;> rfl

/-- A read with two changed bits is counted, captured and alerted, and withdraws a rule in play (R145). -/
theorem State.noteLost_eq (found : FoundBy) : s.noteLost found i = (((s.withMemory { s.memory with
      uncorrectable := min (s.memory.uncorrectable + 1) (max s.memory.uncorrectable 255),
      capture := some (s.memory.capture.getD ⟨.uncorrectable, i, found⟩) }).withRule i
        (if s.rule i = .empty then .empty else .quarantined)).raise (.ruleLost i)) := by
  simp only [State.noteLost, RuleMemory.captured_eq, saturate_eq_min, quarantined_eq]
  rfl

end CheckedRead

/-! ### The items when they are served -/

section Served

variable {s t : State} {kind : Byte} {body : List Byte} {item : List Byte → State → State × Reply} {reply : Reply}

/-- An item to which the item in flight is nothing leaves what it makes of the state as it stood (R135, R174). -/
theorem serveItem_of_outcome (hs : s.serving kind body)
    (take : ∀ w, item body (s.take w) = ((item body s).1.take w, (item body s).2)) (h : item body s = (t, reply))
    (ht : t.engine.inFlight = s.engine.inFlight) : serveItem kind item body s = t.withHandler (.reply reply) :=
  serveItem_of_serving hs (ht.trans (State.inFlight_of_serving hs)) (by rw [take, h])

theorem ruleWriteItem_take (body : List Byte) (s : State) (w : WorkItem) :
    ruleWriteItem body (s.take w) = ((ruleWriteItem body s).1.take w, (ruleWriteItem body s).2) := by
  unfold ruleWriteItem
  split <;> rfl

theorem ruleReadItem_take (body : List Byte) (s : State) (w : WorkItem) :
    ruleReadItem body (s.take w) = ((ruleReadItem body s).1.take w, (ruleReadItem body s).2) := by
  unfold ruleReadItem
  simp only [checkedRead_take]
  split
  · rfl
  · split <;> rfl

theorem ruleEnableItem_take (body : List Byte) (s : State) (w : WorkItem) :
    ruleEnableItem body (s.take w) = ((ruleEnableItem body s).1.take w, (ruleEnableItem body s).2) := by
  have rule (i : Fin 256) : (s.take w).rule i = s.rule i := rfl
  unfold ruleEnableItem
  simp only [rule]
  split
  · rfl
  · split <;> rfl

theorem ruleDisableItem_take (body : List Byte) (s : State) (w : WorkItem) :
    ruleDisableItem body (s.take w) = ((ruleDisableItem body s).1.take w, (ruleDisableItem body s).2) := by
  unfold ruleDisableItem
  split <;> rfl

theorem exec_ruleWrite_served (hs : s.serving 0x0A body) (h : ruleWriteItem body s = (t, reply))
    (ht : t.engine.inFlight = s.engine.inFlight) : exec (.ruleWrite body) s = .next (t.withHandler (.reply reply)) :=
  congrArg _ (serveItem_of_outcome hs (ruleWriteItem_take body s) h ht)

theorem exec_ruleRead_served (hs : s.serving 0x0B body) (h : ruleReadItem body s = (t, reply))
    (ht : t.engine.inFlight = s.engine.inFlight) : exec (.ruleRead body) s = .next (t.withHandler (.reply reply)) :=
  congrArg _ (serveItem_of_outcome hs (ruleReadItem_take body s) h ht)

theorem exec_ruleEnable_served (hs : s.serving 0x0C body) (h : ruleEnableItem body s = (t, reply))
    (ht : t.engine.inFlight = s.engine.inFlight) : exec (.ruleEnable body) s = .next (t.withHandler (.reply reply)) :=
  congrArg _ (serveItem_of_outcome hs (ruleEnableItem_take body s) h ht)

theorem exec_ruleDisable_served (hs : s.serving 0x0D body) (h : ruleDisableItem body s = (t, reply))
    (ht : t.engine.inFlight = s.engine.inFlight) : exec (.ruleDisable body) s = .next (t.withHandler (.reply reply)) :=
  congrArg _ (serveItem_of_outcome hs (ruleDisableItem_take body s) h ht)

end Served

/-! ### RULE-ENABLE and RULE-DISABLE (R108) -/

theorem oneNumber_of_index (i : Fin 256) : oneNumber 256 [byteOf i.val] = some i :=
  (oneNumber_eq_some (Nat.le_refl 256)).mpr rfl

theorem oneNumber_of_length_ne {n : Nat} (hn : n ≤ 256) {body : List Byte} (h : body.length ≠ 1) : oneNumber n body = none :=
  oneNumber_eq_none hn fun ⟨_, hx⟩ => h (by rw [hx]; rfl)

section Table

variable {s : State} {i : Fin 256}

theorem exec_ruleEnable_taken (hs : s.serving 0x0C [byteOf i.val]) (empty : s.rule i ≠ .empty)
    (quarantined : s.rule i ≠ .quarantined) : exec (.ruleEnable [byteOf i.val]) s =
      .next ((s.withRule i (enabledRule (s.rule i))).replying 0x0C .ok (ruleReply i (enabledRule (s.rule i)))) :=
  exec_ruleEnable_served hs
    (by simp only [ruleEnableItem, oneNumber_of_index, empty, quarantined, or_self, if_false, Reply.done]) rfl

theorem exec_ruleEnable_refused (hs : s.serving 0x0C [byteOf i.val]) (h : s.rule i = .empty ∨ s.rule i = .quarantined) :
    exec (.ruleEnable [byteOf i.val]) s = .next (s.replying 0x0C .invalid []) :=
  exec_ruleEnable_served hs (by simp only [ruleEnableItem, oneNumber_of_index, h, if_true, Reply.invalid]) rfl

theorem exec_ruleDisable_index (hs : s.serving 0x0D [byteOf i.val]) : exec (.ruleDisable [byteOf i.val]) s =
    .next ((s.withRule i (disabledRule (s.rule i))).replying 0x0D .ok (ruleReply i (disabledRule (s.rule i)))) :=
  exec_ruleDisable_served hs (by simp only [ruleDisableItem, oneNumber_of_index, Reply.done]) rfl

/-- A RULE-DISABLE leaves a rule that is not in play as it is (R108). -/
theorem exec_ruleDisable_kept (hs : s.serving 0x0D [byteOf i.val]) (h : disabledRule (s.rule i) = s.rule i) :
    exec (.ruleDisable [byteOf i.val]) s = .next (s.replying 0x0D .ok (ruleReply i (s.rule i))) := by
  rw [exec_ruleDisable_index hs, h, State.withRule_rule]

end Table

/-- Settles O33: each state of the rule in R108's table, and the bodies that are no index. -/
theorem ruleEnableAndDisableFollowTheTable : Obligations.RuleEnableAndDisableFollowTheTable := by
  intro s i
  refine ⟨fun hs => ⟨fun h => ?_, exec_ruleEnable_refused hs⟩, fun hs => ⟨fun h => ?_, fun h => ?_, fun h => ?_⟩,
    fun body length => ⟨fun hs => ?_, fun hs => ?_, fun hs => ?_⟩⟩
  · rw [exec_ruleEnable_taken hs (by rcases h with h | h | h <;> simp [h]) (by rcases h with h | h | h <;> simp [h])]
    rcases h with h | h | h <;> rw [h] <;> rfl
  · rw [exec_ruleDisable_index hs]
    rcases h with h | h | h <;> rw [h] <;> rfl
  · rw [exec_ruleDisable_kept hs (by rw [h]; rfl), h]
    rfl
  · rw [exec_ruleDisable_kept hs (by rw [h]; rfl), h]
    rfl
  all_goals have unread : oneNumber 256 body = none := oneNumber_of_length_ne (Nat.le_refl 256) length
  · exact exec_ruleEnable_served hs (by simp only [ruleEnableItem, unread, Reply.invalid]) rfl
  · exact exec_ruleDisable_served hs (by simp only [ruleDisableItem, unread, Reply.invalid]) rfl
  · exact exec_ruleRead_served hs (by simp only [ruleReadItem, unread, Reply.invalid]) rfl

/-! ### RULE-WRITE (R104, R105, R151, R184) -/

section Write

variable {s : State} {i : Fin 256} {bytes : List Byte}

theorem parseRuleWrite_cons : parseRuleWrite (byteOf i.val :: bytes) =
    if bytes.length = 12 + 4 * ((byteAt bytes 1).toNat % 4 + 1) then
      (decodeRule (packRecord bytes)).map fun r => (i, packRecord bytes, r) else none := by
  have index : (byteOf i.val).toFin = i := Fin.ext (byteOf_toNat i.isLt)
  simp only [parseRuleWrite, actionCount, index]

theorem exec_ruleWrite_refused {body : List Byte} (hs : s.serving 0x0A body) (h : parseRuleWrite body = none) :
    exec (.ruleWrite body) s = .next (s.replying 0x0A .invalid []) :=
  exec_ruleWrite_served hs (by simp only [ruleWriteItem, h, Reply.invalid]) rfl

/-- A record that passes the checks is written whole, and sets the rule's state (R105). -/
theorem exec_ruleWrite_written (hs : s.serving 0x0A (byteOf i.val :: bytes))
    (length : bytes.length = 12 + 4 * ((byteAt bytes 1).toNat % 4 + 1)) {r : RuleRecord}
    (hr : decodeRule (packRecord bytes) = some r) : exec (.ruleWrite (byteOf i.val :: bytes)) s =
      .next ((s.writeRule i (encodeEntry (packRecord bytes)) (if (byteAt bytes 1).getLsbD 6 then .disabled else .enabled)).replying
        0x0A .ok [byteOf i.val, if (byteAt bytes 1).getLsbD 6 then 2 else 1]) := by
  obtain ⟨read, -⟩ := decodeRule_eq_some.mp hr
  have disabled : r.startDisabled = (byteAt bytes 1).getLsbD 6 := by
    rw [read.startDisabled, recordByte_packRecord bytes (by decide)]
  rw [exec_ruleWrite_served hs (t := s.writeRule i (encodeEntry (packRecord bytes)) (writtenState r.startDisabled))
    (by simp only [ruleWriteItem, parseRuleWrite_cons, length, if_true, hr, Option.map_some]; rfl) rfl, disabled]
  cases (byteAt bytes 1).getLsbD 6 <;> rfl

end Write

/-- Settles O29: the entry, the rule's state and the pending write-back behind an accepted write; the refusals. -/
theorem ruleWriteStoresAFreshEntry : Obligations.RuleWriteStoresAFreshEntry := by
  refine ⟨fun s i bytes hs => ⟨fun r length hr => ?_, fun refused => ?_⟩, fun s hs => exec_ruleWrite_refused hs rfl⟩
  · exact ⟨_, exec_ruleWrite_written hs length hr, rfl, rfl, s.memory.write_writeBack i _⟩
  · refine exec_ruleWrite_refused hs ?_
    rw [parseRuleWrite_cons]
    rcases refused with length | unread
    · exact if_neg length
    · rw [unread, Option.map_none, ite_self]

/-! ### RULE-READ (R106, R144, R145) -/

section Read

variable {s : State} {i : Fin 256}

theorem exec_ruleRead_clean (hs : s.serving 0x0B [byteOf i.val]) (clean : readOutcome s.memory.entries[i] = .clean) :
    exec (.ruleRead [byteOf i.val]) s = .next (s.replying 0x0B .ok
      (byteOf i.val :: ruleStateCode (s.rule i) :: unpackRecord (entryData s.memory.entries[i]))) := by
  exact exec_ruleRead_served hs (by simp only [ruleReadItem, oneNumber_of_index, checkedRead_clean clean]; rfl) rfl

end Read

/-- Settles O32: the read's outcome, case by case, with all that it does to the state. -/
theorem ruleReadGoesThroughTheCheck : Obligations.RuleReadGoesThroughTheCheck := by
  intro s i hs
  refine ⟨exec_ruleRead_clean hs, fun p changed => ?_, fun lost => ?_⟩
  · have read := checkedRead_oneChanged (found := .read) changed
    rw [State.noteCorrected_written s i (.inr rfl)] at read
    exact exec_ruleRead_served hs (by simp only [ruleReadItem, oneNumber_of_index, read]; rfl) rfl
  · have read := checkedRead_twoChanged (found := .read) lost
    rw [State.noteLost_eq] at read
    exact exec_ruleRead_served hs (by simp only [ruleReadItem, oneNumber_of_index, read]; rfl) rfl

/-- Settles O31: the written entry reads clean, and its data are the record's bytes. -/
theorem ruleReadReturnsTheRecordWritten : Obligations.RuleReadReturnsTheRecordWritten := by
  intro s t u i bytes hs length legal ht hu
  obtain ⟨r, hr⟩ := Option.ne_none_iff_exists'.mp legal
  obtain rfl := Host.Outcome.next.inj (ht.symm.trans (exec_ruleWrite_written hs length hr))
  have idle : s.engine.inFlight = none := State.inFlight_of_serving hs
  obtain ⟨high, -⟩ := hs
  have entry : u.memory.entries[i] = encodeEntry (packRecord bytes) := hu ▸ s.memory.write_entry_self i _
  have state : u.rule i = if (byteAt bytes 1).getLsbD 6 then .disabled else .enabled := hu ▸ State.withRule_rule_self _ i _
  have served : u.serving 0x0B [byteOf i.val] := hu ▸ ⟨high, idle, .inl rfl⟩
  rw [exec_ruleRead_clean served (by rw [entry, readOutcome_encodeEntry]), entry, entryData_encodeEntry,
    unpackRecord_packRecord bytes (by omega), state]
  cases (byteAt bytes 1).getLsbD 6 <;> rfl

end Sys2Proof.Machine
end

section
/-! The transmitter's choice, and the bytes of replies, alerts, quest notices and echoes (R120, R161, R162, R164, R171, R181,
R182). -/

namespace Sys2Proof.Machine

open Sys2Proof

/-! ### The choice (R161, R162, R171) -/

section Choice

variable {s : State}

/-- A free transmitter makes its choice at once (R162). -/
theorem exec_transmitFrameStart_free (high : s.rstnLow = false) (free : s.uplink.tx = none)
    (held : s.uplink.hostHeld = false) : exec .transmitFrameStart s = .next s.startFrame := by
  have may : s.transmitterFree = true := by simp [State.transmitterFree, State.alive, high, free, held]
  simp only [exec, execTransmitFrameStart, may, if_true]

/-- A busy transmitter begins nothing, and neither does one that the host holds (R162, R171). -/
theorem exec_transmitFrameStart_waits (h : s.uplink.tx ≠ none ∨ s.uplink.hostHeld = true) :
    exec .transmitFrameStart s = .next s := by
  have waits : s.transmitterFree = false := by
    rcases h with busy | held
    · simp [State.transmitterFree, busy]
    · simp [State.transmitterFree, held]
  simp [exec, execTransmitFrameStart, waits]

end Choice

/-! ### A frame on the line (R164, R181, R182) -/

theorem escapeByte_eq (b : Byte) :
    escapeByte b = if b ∈ [0xC5, 0xF0, 0xF1, 0xF2] then [0xF0, b ^^^ 0x40] else [b] := by
  simp [escapeByte, needsEscape, or_assoc]

/-- The check byte makes the sum of a frame's content a multiple of 256 (R181). -/
theorem byteSum_uplinkCheck (bytes : List Byte) : byteSum (bytes ++ [uplinkCheck bytes]) % 256 = 0 := by
  have split : byteSum (bytes ++ [uplinkCheck bytes]) = byteSum bytes + (256 - byteSum bytes % 256) % 256 := by
    simp [byteSum, uplinkCheck, byteOf]
  omega

/-- A reply's kind byte holds the status code in bits 5 to 7 and the request's kind below it (R182). -/
theorem statusBits_toNat {code kind : Byte} (hc : code.toNat < 8) (hk : kind.toNat < 32) :
    ((code <<< 5) ||| kind).toNat = 32 * code.toNat + kind.toNat := by
  have shifted : (code <<< 5).toNat = code.toNat <<< 5 := by
    rw [BitVec.toNat_shiftLeft, Nat.shiftLeft_eq, Nat.mod_eq_of_lt (by omega)]
  rw [BitVec.toNat_or, shifted, ← Nat.shiftLeft_add_eq_or_of_lt hk, Nat.shiftLeft_eq, Nat.mul_comm]

/-- The codes of the statuses (R182). -/
theorem statusCode_of_mem {st : Status} {code : Nat}
    (h : (st, code) ∈ [(Status.ok, 1), (.busy, 2), (.invalid, 3), (.full, 4), (.unknown, 5)]) :
    code = (statusCode st).toNat := by
  simp only [List.mem_cons, Prod.mk.injEq, List.not_mem_nil, or_false] at h
  rcases h with ⟨rfl, rfl⟩ | ⟨rfl, rfl⟩ | ⟨rfl, rfl⟩ | ⟨rfl, rfl⟩ | ⟨rfl, rfl⟩ <;> rfl

theorem replyKindByte_unknown {r : Reply} (h : r.status = .unknown) : replyKindByte r = 0xA0 := by
  simp only [replyKindByte, h]

theorem replyKindByte_known {r : Reply} (h : r.status ≠ .unknown) :
    replyKindByte r = (statusCode r.status <<< 5) ||| r.kind := by
  unfold replyKindByte
  split
  · next unknown => exact absurd unknown h
  · rfl

theorem replyKindByte_toNat {r : Reply} (h : r.status ≠ .unknown → r.kind.toNat ≤ 0x1B) : (replyKindByte r).toNat =
    32 * (statusCode r.status).toNat + if r.status = .unknown then 0 else r.kind.toNat := by
  by_cases unknown : r.status = .unknown
  · rw [replyKindByte_unknown unknown, unknown]
    rfl
  · have code : (statusCode r.status).toNat < 8 := by cases r.status <;> decide
    have kind := h unknown
    rw [replyKindByte_known unknown, statusBits_toNat code (by omega), if_neg unknown]

/-! ### The bodies of the notices (chapter 11 "Notice bodies") -/

theorem armCode_eq (i : ArmId) : armCode i = if i = .a then 0 else 1 := by cases i <;> rfl

theorem questNoticeBody_score (seat : Fin 6) (score : Score) : questNoticeBody (.score seat score) =
    [5, byteOf seat.val, byteOf (score.value / 256), byteOf score.value, if score.saturated then 1 else 0] := by
  have small := score.value_le
  rw [questNoticeBody, numberBytes_eq (by omega)]
  rfl

/-- The head of a tile event's ECHO and the piece bytes behind it (R120). -/
theorem echoBody_tile (r : EventRecord) (n : Nat) : echoBody ⟨.tile r, n⟩ =
    [0, byteOf n, if r.arm = .a then 0 else 1, byteOf r.position.val, (tileEventCode r.event).1, byteOf r.zone.val] ++
      (tileEventCode r.event).2 := by
  rw [← armCode_eq]
  rfl

theorem pieceSeatCode_eq {seat : PieceSeat} {b : Byte} (neutral : seat = .neutral → b = 7)
    (player : ∀ k, seat = .player k → b = byteOf k.val) : pieceSeatCode seat = b := by
  cases seat with
  | player k => exact (player k rfl).symm
  | neutral => exact (neutral rfl).symm

/-- Settles O20: the ranking, source by source; the frame's bytes; the body of each notice. -/
theorem transmitterRanksItsSourcesAndBuildsTheirFrames : Obligations.TransmitterRanksItsSourcesAndBuildsTheirFrames := by
  refine ⟨fun s high => ⟨fun free held => ?_, exec_transmitFrameStart_waits⟩, fun kind body => ?_,
    fun r kind code small coded value => ?_, fun n i p rule place => ?_, fun q stage seat score code => ?_,
    fun r n piece seat head hhead neutral player => ?_⟩
  · rw [exec_transmitFrameStart_free high free held]
    rcases s.startFrame_cases with ⟨r, reply, begins⟩ | ⟨noReply, ranked⟩
    · refine ⟨fun r' hr => ?_, fun noReply => absurd reply (noReply r)⟩
      obtain rfl : r = r' := Handler.reply.inj (reply.symm.trans hr)
      rw [begins]
      rfl
    refine ⟨fun r hr => absurd hr (noReply r), fun _ => ?_⟩
    rcases ranked with ⟨e, rest, alert, begins⟩ | ⟨noAlert, n, rest, quest, begins⟩ |
      ⟨noAlert, noQuest, e, rest, echo, begins⟩ | ⟨noAlert, noQuest, noEcho, begins⟩
    · simp [begins, alert, State.begin]
    · simp [begins, noAlert, quest, State.begin]
    · simp [begins, noAlert, noQuest, echo, State.begin]
    · simp [begins, noAlert, noQuest, noEcho]
  · refine ⟨_, byteSum_uplinkCheck (byteOf (body.length + 1) :: kind :: body), ?_⟩
    rw [frameLine, frameContent, funext escapeByte_eq]
    rfl
  · have same : kind = replyKindByte r := BitVec.eq_of_toNat_eq (by
      rw [replyKindByte_toNat small, ← statusCode_of_mem coded, value])
    rw [replyLine, same]
  · refine ⟨rfl, rfl, ?_, ?_, ?_, ?_, rfl, rfl, rfl, rfl, rfl, rfl⟩
    all_goals
      rw [← armCode_eq]
      rfl
  · refine ⟨rfl, rfl, rfl, rfl, rfl, ?_, rfl, rfl, rfl⟩
    rw [questLine, questNoticeBody_score]
  · subst hhead
    refine ⟨fun h => ?_, fun h => ?_, fun h => ?_, fun h => ?_, fun q => rfl, fun c => rfl⟩
    all_goals
      rw [eventLine, echoBody_tile, h]
    · rfl
    · rfl
    all_goals
      rw [← pieceSeatCode_eq neutral player]
      rfl

end Sys2Proof.Machine
end

section
/-! The scan of an event item: its course through the rule table, the echo decision, and the commands that come up while an
item is in flight (R110, R114, R116, R119, R123, R128 to R130, R144, R145). -/

namespace Sys2Proof.Machine

open Sys2Proof

/-! ### The course of a scan -/

/-- The checked read of an ENABLED rule's entry is the scan's fetch (R110, R144, R145). -/
theorem fetches_checkedRead {i : Fin 256} {s : State} (enabled : s.rule i = .enabled) :
    Fetches i s (checkedRead .scan i s).1 (checkedRead .scan i s).2 := by
  cases h : readOutcome s.memory.entries[i] with
  | clean =>
    rw [checkedRead_clean h]
    exact .clean h
  | oneChanged p =>
    rw [checkedRead_oneChanged h, State.noteCorrected_written s i (.inl rfl)]
    exact .corrected p _ h rfl
  | twoChanged =>
    rw [checkedRead_twoChanged h, State.noteLost_eq, if_neg (by rw [enabled]; decide)]
    exact .lost h

/-- The rule indices from one on, in the order of the scan. -/
def rulesFrom (k : Nat) : List (Fin 256) := (List.finRange 256).drop k

theorem rulesFrom_zero : rulesFrom 0 = allRules := by
  unfold allRules
  exact List.drop_zero

theorem rulesFrom_end : rulesFrom 256 = [] := List.drop_of_length_le (by simp)

theorem rulesFrom_cons (i : Fin 256) : rulesFrom i.val = i :: rulesFrom (i.val + 1) := by
  rw [rulesFrom, List.drop_eq_getElem_cons (by simp), List.getElem_finRange]
  rfl

section Course

variable {asides : List Aside} {ev : Event} {i : Fin 256} {n : Nat} {s now : State}

/-- An ENABLED rule whose record is lost, refused or does not match is passed over with the fetch's effects, and the scan
goes on (R110, R111). -/
theorem scanRules_unmatched (hn : now = during asides (.fetch i) s) (enabled : now.rule i = .enabled)
    (unmatched : ∀ r, (checkedRead .scan i now).2.bind decodeRule = some r →
      ruleMatches r ev (checkedRead .scan i now).1 = false) (rest : List (Fin 256)) :
    scanRules asides ev n s (i :: rest) = scanRules asides ev n (checkedRead .scan i now).1 rest := by
  have skipped := scanRule_skip asides ev now i unmatched
  rw [scanRules_skip asides ev n s now i rest hn enabled (by rw [skipped]; rfl), skipped]

/-- Past a matching rule the scan goes on exactly when it chains and fewer than four have fired (R114, R116). -/
theorem scanRules_matched (hn : now = during asides (.fetch i) s) (enabled : now.rule i = .enabled) {r : RuleRecord}
    (hr : (checkedRead .scan i now).2.bind decodeRule = some r)
    (matched : ruleMatches r ev (checkedRead .scan i now).1 = true) (rest : List (Fin 256)) :
    scanRules asides ev n s (i :: rest) =
      if r.chain = true ∧ n + 1 < 4 then
        scanRules asides ev (n + 1) (fireRule asides ev i r (checkedRead .scan i now).1) rest
      else (fireRule asides ev i r (checkedRead .scan i now).1, n + 1) := by
  have fired := scanRule_fire asides ev now i r hr matched
  rw [scanRules_fire asides ev n s now i rest hn enabled (by rw [fired]; rfl), fired]
  simp

end Course

/-- The scan over the indices from one on takes the course that R110, R114 and R116 describe. -/
theorem scans_scanRules (asides : List Aside) (ev : Event) {left k : Nat} (h : k + left = 256) (n : Nat) (s : State) :
    Scans asides ev k n s (scanRules asides ev n s (rulesFrom k)).1 (scanRules asides ev n s (rulesFrom k)).2 := by
  induction left generalizing k n s with
  | zero =>
    obtain rfl : k = 256 := h
    rw [rulesFrom_end]
    exact .done n s
  | succ left ih =>
    obtain ⟨i, rfl⟩ : ∃ i : Fin 256, i.val = k := ⟨⟨k, by omega⟩, rfl⟩
    have next := @ih (i.val + 1) (by omega)
    obtain ⟨now, hn⟩ : ∃ now, now = during asides (.fetch i) s := ⟨_, rfl⟩
    rw [rulesFrom_cons]
    by_cases enabled : now.rule i = .enabled
    case neg =>
      rw [scanRules_pass asides ev n s now i _ hn enabled]
      exact .passed i n _ s now _ hn enabled (next n now)
    have fetched := fetches_checkedRead enabled
    by_cases fires : ∃ r, (checkedRead .scan i now).2.bind decodeRule = some r ∧
        ruleMatches r ev (checkedRead .scan i now).1 = true
    case neg =>
      have unmatched : ∀ r, (checkedRead .scan i now).2.bind decodeRule = some r →
          ruleMatches r ev (checkedRead .scan i now).1 = false :=
        fun r hr => Bool.eq_false_iff.mpr fun matched => fires ⟨r, hr, matched⟩
      rw [scanRules_unmatched hn enabled unmatched]
      exact .unmatched i n _ s now _ _ _ hn enabled fetched unmatched (next n _)
    obtain ⟨r, hr, matched⟩ := fires
    rw [scanRules_matched hn enabled hr matched]
    obtain ⟨data, read, legal⟩ := Option.bind_eq_some_iff.mp hr
    rw [read] at fetched
    by_cases goesOn : r.chain = true ∧ n + 1 < 4
    · rw [if_pos goesOn]
      exact .chained i n _ s now _ _ _ data r hn enabled fetched legal matched rfl goesOn.1 goesOn.2 (next (n + 1) _)
    · rw [if_neg goesOn]
      refine .ended i n s now _ _ data r hn enabled fetched legal matched rfl ?_
      rwa [not_and_or, Bool.not_eq_true, not_lt] at goesOn

/-- No more than four rules fire in one scan (R116). -/
theorem Scans.fired_le {asides : List Aside} {ev : Event} {k n m : Nat} {s t : State} (h : Scans asides ev k n s t m)
    (hn : n ≤ 3) : m ≤ 4 := by
  induction h with
  | done => omega
  | passed _ _ _ _ _ _ _ _ _ ih => exact ih hn
  | unmatched _ _ _ _ _ _ _ _ _ _ _ _ _ ih => exact ih hn
  | chained _ _ _ _ _ _ _ _ _ _ _ _ _ _ _ _ _ few _ ih => exact ih (by omega)
  | ended => omega

/-! ### An event item from its take to its end -/

/-- The take of an event item runs the item on the state right after the take (R79, R124, R128, R129). -/
theorem exec_of_takes {s taken : State} {c : Instr} {ev : Event} (may : s.eventsMayStart) (h : s.Takes c ev taken) :
    exec c s = .next (runEvent s.asides ev taken) := by
  have chosen := State.choose_of_eventsMayStart may
  cases h with
  | tile i r rest expiry inject fifo turn =>
    have choice : s.choose = some (.fifo i r) := by
      rw [chosen, State.eventChoice, expiry, inject]
      exact State.fifoChoice_eq fifo turn
    simp only [exec, execTileEventTake, choice, State.runTileEvent, fifo]
    cases i <;> rfl
  | timer q rest expiry timeout =>
    have choice : s.choose = some (.expiry q) := by rw [chosen, State.eventChoice, expiry]
    simp only [exec, execExpiryTake, choice, State.runExpiry, timeout, expiry]
    rfl
  | injected c expiry inject =>
    have choice : s.choose = some (.inject c) := by rw [chosen, State.eventChoice, expiry, inject]
    simp only [exec, execInjectTake, choice, State.runInject]
    rfl

/-- The echo decision: an echo position, or unclaimed echo on and no rule fired (R119). -/
theorem echoOwed_iff (s : State) (ev : Event) (n : Nat) : echoOwed s ev n = true ↔
    (∃ r, ev = .tile r ∧ (s.mapRec r.arm r.position).echo = true) ∨ (n = 0 ∧ s.engine.unclaimedEcho = true) := by
  cases ev <;> simp [echoOwed]

/-! ### Commands while an item is in flight (R123, R130) -/

section Busy

variable {s : State}

/-- No management item is taken while another item is in flight (R123). -/
theorem serveItem_busy (busy : s.engine.inFlight ≠ none) (kind : Byte) (item : List Byte → State → State × Reply)
    (body : List Byte) : serveItem kind item body s = s := by
  rw [serveItem, if_neg (by simp [State.mayServe, busy])]

theorem State.choose_busy (busy : s.engine.inFlight ≠ none) : s.choose = none := by
  rw [State.choose, if_neg (by simp [busy])]

/-- While an item is in flight the other blocks' commands have their effect and the engine's have none. -/
theorem exec_busy (busy : s.engine.inFlight ≠ none) (high : s.rstnLow = false) {c : Instr} (powerOn : c ≠ .powerOn)
    (resetLine : c ≠ .resetLine) : exec c s = .next (besides c s) := by
  cases c
  case powerOn => exact absurd rfl powerOn
  case resetLine => exact absurd rfl resetLine
  case rstnRelease => simp [exec, execRstnRelease, high, besides]
  case tileEventTake => simp only [exec, execTileEventTake, State.choose_busy busy, besides]
  case expiryTake => simp only [exec, execExpiryTake, State.choose_busy busy, besides]
  case injectTake => simp only [exec, execInjectTake, State.choose_busy busy, besides]
  case setup | tileWrite | ruleWrite | ruleRead | ruleEnable | ruleDisable | rawRead | rawWrite | questWrite | questRead |
      questStart | questAbort | scoreSet | scoreRead | turnSet | effectSend | inject | engineHold | engineRun | gameReset =>
    exact congrArg Host.Outcome.next (serveItem_busy busy _ _ _)
  all_goals rfl

end Busy

/-- Settles O47: the scan's course, then the echo decision on the state that the scan and the other blocks have left. -/
theorem scanFiresTheMatchingRulesInOrder : Obligations.ScanFiresTheMatchingRulesInOrder := by
  refine ⟨fun s taken c ev may takes => ?_, fun c s busy high powerOn resetLine => exec_busy busy high powerOn resetLine⟩
  have course := scans_scanRules s.asides ev (left := 256) (Nat.zero_add 256) 0 taken
  rw [rulesFrom_zero] at course
  refine ⟨_, _, _, course, course.fired_le (Nat.zero_le 3), rfl, fun owed => ?_, fun plain claimed => ?_⟩
  all_goals
    rw [exec_of_takes may takes, runEvent]
    simp only []
  · rw [if_pos ((echoOwed_iff _ _ _).mpr owed)]
    rfl
  · rw [if_neg fun owed => ?_]
    · rfl
    rcases (echoOwed_iff _ _ _).mp owed with ⟨r, hr, echo⟩ | ⟨none, unclaimed⟩
    · exact Bool.false_ne_true ((plain r hr).symm.trans echo)
    · exact Bool.false_ne_true ((claimed none).symm.trans unclaimed)

end Sys2Proof.Machine
end

section
/-! A step and its queue (R122, R174), the part while RSTN is low (R173), and the values after a reset (R140, R158). -/

namespace Sys2Proof.Machine

open Sys2Proof

/-! ### One step -/

theorem step_front {s : State} {c : Instr} {rest : List Instr} (h : s.pending = c :: rest) :
    step s = exec c (s.withPending rest) := by
  rw [step, h]

theorem step_idle {s : State} (h : s.pending = []) : step s = .next s := by
  rw [step, h]

/-- Settles O1: the queue holds a command at its front, or none. -/
theorem stepRunsTheFrontCommand : Obligations.StepRunsTheFrontCommand :=
  fun _ => ⟨fun _ _ => step_front, step_idle⟩

/-! ### While RSTN is low (R173) -/

section Low

variable {s : State}

theorem State.alive_of_low (low : s.rstnLow = true) : s.alive = false := by simp [State.alive, low]

theorem serveDirect_of_low (low : s.rstnLow = true) (item : List Byte → State → State × Reply) (body : List Byte) :
    serveDirect item body s = s := by
  simp [serveDirect, State.handlerFree, State.alive_of_low low]

theorem serveItem_of_low (low : s.rstnLow = true) (kind : Byte) (item : List Byte → State → State × Reply)
    (body : List Byte) : serveItem kind item body s = s := by
  simp [serveItem, State.mayServe, State.alive_of_low low]

theorem State.receive_of_low (low : s.rstnLow = true) (b : Byte) (stopOk : Bool) : s.receive b stopOk = s := by
  simp [State.receive, State.alive_of_low low]

theorem State.choose_of_low (low : s.rstnLow = true) : s.choose = none := by
  simp [State.choose, State.alive_of_low low]

theorem State.waitOver_of_low (low : s.rstnLow = true) (i : ArmId) (f : StartMark → StartMark) : s.waitOver i f = s := by
  simp [State.waitOver, State.alive_of_low low]

/-- No command of an arm's pair has an effect while RSTN is low. -/
theorem exec_armOf_of_low (low : s.rstnLow = true) {c : Instr} {i : ArmId} (hc : Instr.armOf c = some i) :
    exec c s = .next s := by
  have asleep := State.alive_of_low low
  cases c <;> cases hc
  case dozeWaitEnd | emptyRotationWaitEnd => exact congrArg _ (State.waitOver_of_low low i _)
  case pollSend => simp [exec, execPollSend, asleep]
  case effectFrameSend => simp [exec, execEffectFrameSend, asleep]
  case assignSend => simp [exec, execAssignSend, asleep]
  case effectFrameEnd => simp [exec, execEffectFrameEnd, asleep]
  case assignEnd => simp [exec, execAssignEnd, asleep]
  case pollAnswer => simp [exec, execPollAnswer, asleep]
  case replyWindowClose => simp [exec, execReplyWindowClose, asleep]
  case strayFrame => simp [exec, execStrayFrame, asleep]

end Low

/-- Settles O3: each block's gate is shut: the receiver, the transmitter, the handler, the arbiter, the timer unit, the
scrubber and the arms test that the part is alive. -/
theorem rstnLowHoldsThePart : Obligations.RstnLowHoldsThePart := by
  intro c s low waits
  have asleep := State.alive_of_low low
  cases c with
  | powerOn | resetLine | rstnRelease | bitUpset => cases waits
  | uplinkByteReceived b ok => exact congrArg _ (State.receive_of_low low b ok)
  | holdReceived ok => exact congrArg _ (State.receive_of_low low 0xF1 ok)
  | goReceived ok => exact congrArg _ (State.receive_of_low low 0xF2 ok)
  | identify | armStatus | tileRead | armStart | armStop | doze | diagCapture =>
    exact congrArg _ (serveDirect_of_low low _ _)
  | setup | tileWrite | ruleWrite | ruleRead | ruleEnable | ruleDisable | rawRead | rawWrite | questWrite | questRead |
      questStart | questAbort | scoreSet | scoreRead | turnSet | effectSend | inject | engineHold | engineRun | gameReset =>
    exact congrArg _ (serveItem_of_low low _ _ _)
  | tileEventTake => rw [exec, execTileEventTake, State.choose_of_low low]
  | expiryTake => rw [exec, execExpiryTake, State.choose_of_low low]
  | injectTake => rw [exec, execInjectTake, State.choose_of_low low]
  | pollSend | effectFrameSend | assignSend | effectFrameEnd | assignEnd | pollAnswer | replyWindowClose | strayFrame |
      dozeWaitEnd | emptyRotationWaitEnd => exact exec_armOf_of_low low rfl
  | partialFrameTimeout => simp [exec, execPartialFrameTimeout, asleep]
  | discardQuiet => simp [exec, execDiscardQuiet, asleep]
  | flowByteSend => simp [exec, execFlowByteSend, asleep]
  | transmitFrameStart => simp [exec, execTransmitFrameStart, State.transmitterFree, asleep]
  | transmitFrameEnd => simp [exec, execTransmitFrameEnd, asleep]
  | requestTake => simp [exec, execRequestTake, asleep]
  | questTick => simp [exec, execQuestTick, asleep]
  | questTimerExpiry => simp [exec, execQuestTimerExpiry, asleep]
  | scrubSlot => simp [exec, execScrubSlot, asleep]
  | scrubWriteBack => simp [exec, execScrubWriteBack, asleep]

/-! ### The values after a reset (R140, R158, R173) -/

theorem Arm.powerOn_atPowerOn : Arm.powerOn.atPowerOn :=
  ⟨rfl, rfl, rfl, rfl, rfl, rfl, rfl, rfl, rfl, rfl, rfl, rfl, fun p => by simp [Arm.powerOn, PresenceRec.fresh], rfl, rfl⟩

theorem Engine.powerOn_quest (q : Fin 16) : Engine.powerOn.quests[q] = Quest.powerOn := by simp [Engine.powerOn]

theorem Engine.powerOn_atPowerOn : Engine.powerOn.atPowerOn := by
  refine ⟨rfl, rfl, rfl, rfl, rfl, rfl, rfl, rfl, rfl, rfl, fun q => ?_, fun n => ?_, fun i => ?_⟩
  · rw [Engine.powerOn_quest]
    exact ⟨rfl, rfl, rfl, rfl, rfl, rfl, rfl, rfl, rfl, fun c => by simp [Quest.powerOn, QuestDef.powerOn]⟩
  · simp [Engine.powerOn, Score.zero, Score.value]
  · simp [Engine.powerOn]

/-- The state as a reset leaves it: every block at its power-on values, with these alerts queued, these flow bytes owed and
this level of RSTN; what waits outside the part stands. -/
def State.afterReset (s : State) (alerts : List AlertEntry) (owed : List FlowByte) (low : Bool) : State :=
  { State.blank with
    notices := ⟨alerts, [], []⟩, uplink := { Uplink.powerOn with flowOwed := owed }, rstnLow := low,
    pending := s.pending, meanwhile := s.meanwhile, tileWrites := s.tileWrites }

section Reset

variable (s : State)

theorem State.afterReset_atPowerOn (alerts : List AlertEntry) (owed : List FlowByte) (low : Bool) :
    (s.afterReset alerts owed low).atPowerOn alerts owed := by
  refine ⟨fun i => ?_, fun k => ?_, Engine.powerOn_atPowerOn, fun q => ?_, fun i => ?_, rfl, rfl, rfl, rfl, rfl, rfl, rfl,
    rfl, rfl, rfl, rfl, rfl, rfl, rfl, rfl⟩
  · cases i <;> exact Arm.powerOn_atPowerOn
  · simp [State.afterReset, State.blank, TileRec.powerOn]
  · simp [State.afterReset, State.blank]
  · simp [State.afterReset, State.blank, RuleMemory.powerOn]

theorem exec_powerOn : exec .powerOn s = .next (s.afterReset [⟨.started .powerOn, 1⟩] [.go] false) := rfl

theorem exec_resetLine : exec .resetLine s = .next (s.afterReset [] [] true) := rfl

theorem exec_rstnRelease_low (low : s.rstnLow = true) :
    exec .rstnRelease s = .next (s.afterReset [⟨.started .resetLine, 1⟩] [.go] false) := by
  rw [exec, execRstnRelease, if_pos low]
  rfl

theorem exec_rstnRelease_high (high : s.rstnLow = false) : exec .rstnRelease s = .next s := by
  simp [exec, execRstnRelease, high]

end Reset

/-- Settles O4: each reset leaves the same values, but for the alert, the flow byte and the level of RSTN. -/
theorem resetsGivePowerOnValues : Obligations.ResetsGivePowerOnValues := fun s =>
  ⟨⟨_, exec_powerOn s, s.afterReset_atPowerOn _ _ _, rfl⟩, ⟨_, exec_resetLine s, s.afterReset_atPowerOn _ _ _, rfl⟩,
    fun low => ⟨_, exec_rstnRelease_low s low, s.afterReset_atPowerOn _ _ _, rfl⟩, exec_rstnRelease_high s⟩

end Sys2Proof.Machine
end

section
/-! INJECT, ENGINE-HOLD and ENGINE-RUN when they are served (R137, R138). -/

namespace Sys2Proof.Machine

open Sys2Proof

/-! ### The item in flight is nothing to the three items -/

theorem injectItem_take (body : List Byte) (s : State) (w : WorkItem) :
    injectItem body (s.take w) = ((injectItem body s).1.take w, (injectItem body s).2) := by
  have slot : (s.take w).engine.inject = s.engine.inject := rfl
  unfold injectItem
  simp only [slot]
  split
  · split <;> rfl
  · rfl

theorem engineHoldItem_take (body : List Byte) (s : State) (w : WorkItem) :
    engineHoldItem body (s.take w) = ((engineHoldItem body s).1.take w, (engineHoldItem body s).2) := by
  unfold engineHoldItem
  split <;> rfl

theorem engineRunItem_take (body : List Byte) (s : State) (w : WorkItem) :
    engineRunItem body (s.take w) = ((engineRunItem body s).1.take w, (engineRunItem body s).2) := by
  unfold engineRunItem
  split <;> rfl

/-! ### The outcomes -/

section Served

variable {s t : State} {body : List Byte} {reply : Reply}

theorem injectItem_empty {code : Byte} (empty : s.engine.inject = none) :
    injectItem [code] s = (s.withEngine { s.engine with inject := some code }, Reply.done 0x18 []) := by
  simp only [injectItem, empty]

theorem injectItem_full {code : Byte} (full : s.engine.inject ≠ none) : injectItem [code] s = (s, Reply.busy 0x18) := by
  obtain ⟨held, slot⟩ := Option.ne_none_iff_exists'.mp full
  simp only [injectItem, slot]

theorem injectItem_invalid (hb : body.length ≠ 1) : injectItem body s = (s, Reply.invalid 0x18) := by
  match body with
  | [] | _ :: _ :: _ => rfl
  | [code] => exact absurd rfl hb

theorem exec_inject_served (hs : s.serving 0x18 body) (h : injectItem body s = (t, reply))
    (ht : t.engine.inFlight = s.engine.inFlight) : exec (.inject body) s = .next (t.withHandler (.reply reply)) :=
  congrArg _ (serveItem_of_outcome hs (injectItem_take body s) h ht)

theorem exec_engineHold_served (hs : s.serving 0x19 body) (h : engineHoldItem body s = (t, reply))
    (ht : t.engine.inFlight = s.engine.inFlight) : exec (.engineHold body) s = .next (t.withHandler (.reply reply)) :=
  congrArg _ (serveItem_of_outcome hs (engineHoldItem_take body s) h ht)

theorem exec_engineRun_served (hs : s.serving 0x1A body) (h : engineRunItem body s = (t, reply))
    (ht : t.engine.inFlight = s.engine.inFlight) : exec (.engineRun body) s = .next (t.withHandler (.reply reply)) :=
  congrArg _ (serveItem_of_outcome hs (engineRunItem_take body s) h ht)

end Served

/-- Settles O41: INJECT by its body and the slot, the two mode requests by their body. -/
theorem injectAndModeRequests : Obligations.InjectAndModeRequests := by
  refine ⟨fun s body hs => ⟨?_, ?_, ?_⟩, fun s body => ⟨fun hs => ⟨?_, ?_⟩, fun hs => ⟨?_, ?_⟩⟩⟩
  · rintro code rfl empty
    exact exec_inject_served hs (injectItem_empty empty) rfl
  · rintro code rfl full
    exact exec_inject_served hs (injectItem_full full) rfl
  · exact fun hb => exec_inject_served hs (injectItem_invalid hb) rfl
  · exact fun hb => exec_engineHold_served hs (if_pos hb) rfl
  · exact fun hb => exec_engineHold_served hs (if_neg hb) rfl
  · exact fun hb => exec_engineRun_served hs (if_pos hb) rfl
  · exact fun hb => exec_engineRun_served hs (if_neg hb) rfl

end Sys2Proof.Machine
end

section
/-! The arbiter's order (R121 to R126): when a take has its effect, and what an event item leaves of the intake FIFOs and of
the mark of the arm served last. -/

namespace Sys2Proof.Machine

open Sys2Proof

/-! ### The arbiter's choice -/

section Order

variable {s : State}

/-- The arbiter takes only the event item that it ranks first, and only where one may start (R123, R126). -/
theorem State.eventsMayStart_of_choose {c : Choice} (h : s.choose = some c) (hc : ∀ kind body, c ≠ .management kind body) :
    s.eventsMayStart ∧ s.eventChoice = some c := by
  have admission := State.admission_of_choose h hc
  have admits (i : ArmId) (active : (s.arm i).active = true) : (s.arm i).effects.length + 16 ≤ 32 := by
    simp only [State.admission, Bool.and_eq_true] at admission
    obtain ⟨⟨-, admitsA⟩, admitsB⟩ := admission
    have admits : (s.arm i).admits = true := by
      cases i
      · exact admitsA
      · exact admitsB
    simpa [Arm.admits, active, Config.admissionRoom, Config.effectCapacity] using admits
  unfold State.choose at h
  split at h
  case isFalse => cases h
  next awake =>
    split at h
    · cases h
      exact absurd rfl (hc _ _)
    · next unasked =>
      split at h
      case isFalse => cases h
      next run =>
        simp only [State.alive, State.admission, Bool.and_eq_true, Bool.not_eq_true', Option.isNone_iff_eq_none, beq_iff_eq,
          decide_eq_true_eq] at awake run
        obtain ⟨high, idle⟩ := awake
        obtain ⟨mode, ⟨⟨quests, events⟩, -⟩, -⟩ := run
        exact ⟨⟨high, idle, unasked, mode, quests, events, admits⟩, h⟩

theorem State.eventChoice_expiry {q : Fin 16} (h : s.eventChoice = some (.expiry q)) : s.engine.expiry ≠ [] := by
  intro empty
  unfold State.eventChoice State.fifoChoice at h
  simp only [empty] at h
  repeat' split at h
  all_goals cases h

theorem State.eventChoice_inject {code : Byte} (h : s.eventChoice = some (.inject code)) :
    s.engine.expiry = [] ∧ s.engine.inject = some code := by
  unfold State.eventChoice State.fifoChoice at h
  simp only [] at h
  repeat' split at h
  all_goals cases h
  exact ⟨by assumption, by assumption⟩

theorem State.eventChoice_fifo {i : ArmId} {r : EventRecord} (h : s.eventChoice = some (.fifo i r)) :
    s.engine.expiry = [] ∧ s.engine.inject = none ∧ (s.arm i).fifo ≠ [] := by
  unfold State.eventChoice State.fifoChoice at h
  simp only [] at h
  repeat' split at h
  all_goals cases h
  all_goals exact ⟨by assumption, by assumption, by simp [*]⟩

/-! ### The takes whose turn it is not -/

theorem exec_tileEventTake_cases (s : State) :
    exec .tileEventTake s = .next s ∨ ∃ i r, s.eventsMayStart ∧ s.eventChoice = some (.fifo i r) := by
  rw [exec, execTileEventTake]
  split
  · next i r chosen => exact .inr ⟨i, r, State.eventsMayStart_of_choose chosen nofun⟩
  · exact .inl rfl

theorem exec_expiryTake_cases (s : State) :
    exec .expiryTake s = .next s ∨ ∃ q, s.eventsMayStart ∧ s.eventChoice = some (.expiry q) := by
  rw [exec, execExpiryTake]
  split
  · next q chosen => exact .inr ⟨q, State.eventsMayStart_of_choose chosen nofun⟩
  · exact .inl rfl

theorem exec_injectTake_cases (s : State) :
    exec .injectTake s = .next s ∨ ∃ code, s.eventsMayStart ∧ s.eventChoice = some (.inject code) := by
  rw [exec, execInjectTake]
  split
  · next code chosen => exact .inr ⟨code, State.eventsMayStart_of_choose chosen nofun⟩
  · exact .inl rfl

/-- A tile event is taken where one may start and no expiry and no injected event waits (R123, R124). -/
theorem exec_tileEventTake_waits (h : s.eventsMayStart → s.engine.expiry = [] → s.engine.inject = none →
    ∀ i, (s.arm i).fifo = []) : exec .tileEventTake s = .next s := by
  rcases exec_tileEventTake_cases s with same | ⟨i, r, may, chosen⟩
  · exact same
  · obtain ⟨expiry, inject, waiting⟩ := State.eventChoice_fifo chosen
    exact absurd (h may expiry inject i) waiting

theorem exec_expiryTake_waits (h : s.eventsMayStart → s.engine.expiry = []) : exec .expiryTake s = .next s := by
  rcases exec_expiryTake_cases s with same | ⟨q, may, chosen⟩
  · exact same
  · exact absurd (h may) (State.eventChoice_expiry chosen)

/-- An injected event is taken where one may start and no expiry waits (R123). -/
theorem exec_injectTake_waits (h : s.eventsMayStart → s.engine.expiry = [] → s.engine.inject = none) :
    exec .injectTake s = .next s := by
  rcases exec_injectTake_cases s with same | ⟨code, may, chosen⟩
  · exact same
  · obtain ⟨expiry, waiting⟩ := State.eventChoice_inject chosen
    exact absurd ((h may expiry).symm.trans waiting) nofun

end Order

/-! ### What the engine's operations do to the intake -/

/-- The mark of the arm served last and the two intake FIFOs (R45, R124). -/
def State.intake (s : State) : ArmId × List EventRecord × List EventRecord :=
  (s.engine.lastServed, s.armA.fifo, s.armB.fifo)

section Intake

variable {s t : State}

theorem State.fifo_of_intake (h : t.intake = s.intake) (i : ArmId) : (t.arm i).fifo = (s.arm i).fifo := by
  simp only [State.intake, Prod.mk.injEq] at h
  obtain ⟨-, a, b⟩ := h
  cases i
  · exact a
  · exact b

theorem State.lastServed_of_intake (h : t.intake = s.intake) : t.engine.lastServed = s.engine.lastServed :=
  (Prod.mk.inj h).1

theorem intake_enqueue (s : State) (i : ArmId) (e : EffectEntry) : (s.enqueue i e).intake = s.intake := by
  rcases s.enqueue_cases i e with ⟨-, h⟩ | ⟨-, h⟩ <;> rw [h]
  cases i <;> rfl

theorem intake_checkedRead (found : FoundBy) (i : Fin 256) (s : State) : (checkedRead found i s).1.intake = s.intake := by
  rcases checkedRead_cases found i s with ⟨-, h⟩ | ⟨p, -, h⟩ | ⟨-, h⟩ <;> rw [h] <;> rfl

theorem intake_activate (s : State) (q : Fin 16) : (s.activate q).intake = s.intake := by
  unfold State.activate
  simp only []
  split <;> rfl

theorem intake_tickTimer (s : State) (q : Fin 16) : (s.tickTimer q).intake = s.intake := by
  rw [State.tickTimer_eq]
  rfl

theorem intake_tickAll (s : State) (l : List (Fin 16)) : (s.tickAll l).intake = s.intake := by
  induction l generalizing s with
  | nil => rfl
  | cons q rest ih => exact (ih _).trans (intake_tickTimer s q)

theorem intake_scrubSlot (s : State) : s.scrubSlot.intake = s.intake := by
  unfold State.scrubSlot State.scrubVisit
  simp only []
  split
  · split
    · exact intake_checkedRead .scrub _ _
    · rfl
  · rfl

theorem intake_performEffect (s : State) (e : Effect) (target : EffectTarget) (ev : Event) :
    (performEffect s e target ev).intake = s.intake := by
  unfold performEffect effectToTile
  repeat' split
  all_goals simp only [intake_enqueue]

theorem intake_performScore (s : State) (f : Score → Score → Score) (seat : Option (Fin 6)) (amount : Fin 10000) :
    (performScore s f seat amount).intake = s.intake := by
  unfold performScore
  split <;> rfl

theorem intake_performStageAdvance (s : State) (q : Fin 16) : (performStageAdvance s q).intake = s.intake := by
  unfold performStageAdvance
  simp only []
  split <;> rfl

theorem intake_performQuestStart {q : Fin 16} (h : performQuestStart s q = .done t) : t.intake = s.intake := by
  unfold performQuestStart at h
  repeat' split at h
  all_goals cases h
  · rfl
  · exact intake_activate s q

/-- No action takes a record from an intake FIFO or puts one in (R132). -/
theorem intake_performAction {ev : Event} {home : Option (Fin 16)} {a : Action} (h : performAction s ev home a = .done t) :
    t.intake = s.intake := by
  have ofHome {f : Fin 16 → State} (hf : ∀ q, (f q).intake = s.intake) (hd : onHome s home f = .done t) :
      t.intake = s.intake := by
    rcases onHome_cases hd with rfl | ⟨q, rfl⟩
    · rfl
    · exact hf q
  unfold performAction at h
  cases hk : a.kind <;> rw [hk] at h <;> simp only [] at h
  case count | setIf | stageSet | questComplete | questFail | timerStart | timerStop =>
    refine ofHome (fun _ => ?_) h
    rfl
  case stageAdvance => exact ofHome (intake_performStageAdvance s) h
  case questStart => exact intake_performQuestStart h
  all_goals cases h
  case scoreAdd | scoreSub => exact intake_performScore s _ _ _
  case effect => exact intake_performEffect s _ _ ev
  case turnNext | turnSet | signal | ruleEnable | ruleDisable => rfl

theorem intake_runAction {ev : Event} {home : Option (Fin 16)} {a : Action} (h : runAction s ev home a = .done t) :
    t.intake = s.intake := by
  rcases runAction_done h with rfl | performed
  · rfl
  · exact intake_performAction performed

/-- What the other blocks' steps inside an event item keep of the intake, the whole item keeps (R110, R119, R128, R130). -/
theorem runEvent_keeps_intake {P : State → Prop} (hP : ∀ {s t}, P s → t.intake = s.intake → P t) {asides : List Aside}
    (hbesides : ∀ x ∈ asides, ∀ s, P s → P (besides x.command s)) (ev : Event) (h : P s) : P (runEvent asides ev s) := by
  have rule (s : State) (i : Fin 256) (hs : P s) : P (scanRule asides ev i s).1 := by
    have read := hP hs (intake_checkedRead .scan i s)
    rcases scanRule_cases asides ev s i with he | ⟨r, -, -, he⟩ <;> rw [he]
    · exact read
    · refine runActions_of_asides asides P hbesides ev i r.home (fun _ _ _ hs ht => hP hs (intake_runAction ht))
        (fun _ _ hs => hP hs rfl) r.actions 1 ?_
      split
      · exact hP read rfl
      · exact read
  have scanned : P (scanRules asides ev 0 s allRules).1 := scanRules_of_asides asides P hbesides ev rule allRules 0 h
  have now := during_of_asides asides P hbesides .echo scanned
  unfold runEvent
  simp only []
  split <;> exact hP now rfl

end Intake

/-! ### What the other blocks do to the engine's mark -/

/-- The requests that the handler serves directly leave the engine as it stands (R175). -/
theorem directItem_engine {kind : Byte} {item : List Byte → State → State × Reply} (hd : directItem kind = some item)
    (body : List Byte) (s : State) : (item body s).1.engine = s.engine := by
  unfold directItem at hd
  split at hd <;> cases hd
  · rfl
  · unfold armStatusItem
    split <;> rfl
  · unfold tileReadItem
    split <;> rfl
  · unfold armStartItem
    split
    · rfl
    split
    · rfl
    · exact State.withArm_engine ..
  · unfold armStopItem
    split
    · rfl
    · exact State.withArm_engine ..
  · unfold dozeItem
    split <;> rfl
  · unfold diagCaptureItem
    split <;> rfl

theorem serveDirect_engine {kind : Byte} {item : List Byte → State → State × Reply} (hd : directItem kind = some item)
    (body : List Byte) (s : State) : (serveDirect item body s).engine = s.engine := by
  rcases serveDirect_cases item body s with ⟨-, h⟩ | ⟨-, h⟩ <;> rw [h]
  exact directItem_engine hd body s

theorem State.decodeRequest_engine (s : State) (kind : Byte) (body : List Byte) :
    (s.decodeRequest kind body).engine = s.engine := by
  unfold State.decodeRequest
  split
  · next item hd => exact directItem_engine hd body s
  · split <;> rfl

theorem State.WithinPort.engine {s t : State} (h : s.WithinPort t) : t.engine = s.engine := by
  obtain ⟨u, n, p, rfl⟩ := h
  rfl

/-- No step of another block inside an event item moves the mark of the arm served last (R124, R130). -/
theorem besides_lastServed (c : Instr) (s : State) : (besides c s).engine.lastServed = s.engine.lastServed := by
  have port {t : State} (h : s.WithinPort t) : t.engine.lastServed = s.engine.lastServed := by rw [h.engine]
  have same : s.WithinPort s := .refl s
  have direct {kind : Byte} {item : List Byte → State → State × Reply} (hd : directItem kind = some item)
      (body : List Byte) : (serveDirect item body s).engine.lastServed = s.engine.lastServed := by
    rw [serveDirect_engine hd]
  have pair {c : Instr} {i : ArmId} (hc : Instr.armOf c = some i) (hb : exec c s = .next (besides c s)) :
      (besides c s).engine.lastServed = s.engine.lastServed := by
    obtain ⟨t, ht, only⟩ := exec_withinPair hc s
    obtain ⟨-, engine, -⟩ := only.rest
    rw [Host.Outcome.next.inj (hb.symm.trans ht), engine]
  cases c with
  | powerOn | resetLine | rstnRelease | setup | tileWrite | ruleWrite | ruleRead | ruleEnable | ruleDisable | rawRead |
      rawWrite | questWrite | questRead | questStart | questAbort | scoreSet | scoreRead | turnSet | effectSend | inject |
      engineHold | engineRun | gameReset | tileEventTake | expiryTake | injectTake | bitUpset => rfl
  | uplinkByteReceived b ok => exact port (same.receive b ok)
  | holdReceived ok => exact port (same.receive 0xF1 ok)
  | goReceived ok => exact port (same.receive 0xF2 ok)
  | partialFrameTimeout =>
    simp only [besides, State.after, execPartialFrameTimeout]
    split
    · exact port (same.garble .idle)
    · rfl
  | discardQuiet =>
    simp only [besides, State.after, execDiscardQuiet]
    split <;> rfl
  | flowByteSend =>
    simp only [besides, State.after, execFlowByteSend]
    split <;> rfl
  | transmitFrameStart =>
    simp only [besides, State.after, execTransmitFrameStart]
    split
    · exact port same.startFrame
    · rfl
  | transmitFrameEnd =>
    simp only [besides, State.after, execTransmitFrameEnd]
    split
    · exact port ((same.withUplink _).frameSent _)
    · rfl
  | requestTake =>
    simp only [besides, State.after, execRequestTake]
    split
    · rw [State.decodeRequest_engine, State.withUplink_engine]
    · rfl
  | identify body => exact direct (kind := 0x01) rfl body
  | armStatus body => exact direct (kind := 0x02) rfl body
  | tileRead body => exact direct (kind := 0x03) rfl body
  | armStart body => exact direct (kind := 0x04) rfl body
  | armStop body => exact direct (kind := 0x05) rfl body
  | doze body => exact direct (kind := 0x06) rfl body
  | diagCapture body => exact direct (kind := 0x07) rfl body
  | questTick =>
    simp only [besides, State.after, execQuestTick]
    split
    · exact State.lastServed_of_intake (intake_tickAll s _)
    · rfl
  | questTimerExpiry q =>
    simp only [besides, State.after, execQuestTimerExpiry]
    split
    · exact State.lastServed_of_intake (intake_tickTimer s q)
    · rfl
  | scrubSlot =>
    simp only [besides, State.after, execScrubSlot]
    split
    · exact State.lastServed_of_intake (intake_scrubSlot s)
    · rfl
  | scrubWriteBack =>
    simp only [besides, State.after, execScrubWriteBack]
    split <;> rfl
  | pollSend | effectFrameSend | assignSend | effectFrameEnd | assignEnd | pollAnswer | replyWindowClose | strayFrame |
      dozeWaitEnd | emptyRotationWaitEnd => exact pair rfl rfl

/-! ### A tile event from its take to its end -/

section TileEvent

variable (s : State) (i : ArmId) (r : EventRecord)

theorem State.runTileEvent_inFlight : (s.runTileEvent i r).engine.inFlight = none := rfl

/-- The arm that a tile event is taken from is the one served last (R124). -/
theorem State.runTileEvent_lastServed : (s.runTileEvent i r).engine.lastServed = i :=
  runEvent_keeps_intake (P := fun t => t.engine.lastServed = i)
    (fun hs ht => (State.lastServed_of_intake ht).trans hs) (fun x _ t ht => (besides_lastServed x.command t).trans ht) _ rfl

/-- With no other block at work inside the item, the FIFOs lose the record taken and nothing else (R47, R128). -/
theorem State.runTileEvent_fifo (quiet : s.asides = []) (j : ArmId) : ((s.runTileEvent i r).arm j).fifo =
    ((s.withArm i { s.arm i with fifo := (s.arm i).fifo.tail }).arm j).fifo := by
  refine runEvent_keeps_intake (P := fun t => (t.arm j).fifo = _) (fun hs ht => (State.fifo_of_intake ht j).trans hs) ?_ _ ?_
  · simp [quiet]
  · simp

end TileEvent

/-- Settles O45: a take whose turn it is not leaves the state; the tile event whose turn it is ends with its arm marked. -/
theorem arbiterTakesInOrder : Obligations.ArbiterTakesInOrder := by
  intro s
  refine ⟨fun barred => ⟨exec_tileEventTake_waits fun may => absurd may barred,
      exec_expiryTake_waits fun may => absurd may barred, exec_injectTake_waits fun may => absurd may barred⟩,
    fun empty => exec_expiryTake_waits fun _ => empty,
    fun listed => ⟨exec_injectTake_waits fun _ empty => absurd empty listed,
      exec_tileEventTake_waits fun _ empty => absurd empty listed⟩,
    fun empty => exec_injectTake_waits fun _ _ => empty,
    fun full => exec_tileEventTake_waits fun _ _ empty => absurd empty full,
    fun emptyA emptyB => exec_tileEventTake_waits fun _ _ _ i => ?_,
    fun may expiry inject i r rest fifo turn => ?_⟩
  · cases i
    · exact emptyA
    · exact emptyB
  · have choice : s.choose = some (.fifo i r) := by
      rw [State.choose_of_eventsMayStart may, State.eventChoice, expiry, inject]
      exact State.fifoChoice_eq fifo turn
    refine ⟨s.runTileEvent i r, by rw [exec, execTileEventTake, choice], s.runTileEvent_lastServed i r,
      s.runTileEvent_inFlight i r, fun quiet => ⟨?_, ?_⟩⟩
    · rw [s.runTileEvent_fifo i r quiet, State.withArm_arm_self, fifo, List.tail_cons]
    · rw [s.runTileEvent_fifo i r quiet, State.withArm_arm_ne _ _ _ _ (by cases i <;> decide)]

end Sys2Proof.Machine
end

section
/-! The code of rule memory under changed bits (R142 to R144). -/

namespace Sys2Proof.Machine

open Sys2Proof

/-! ### One changed bit -/

section Changed

variable (e : BitVec 233) (p : Fin 233)

/-- An upset inverts its position and no other (R141). -/
theorem flipBit_bit (n : Nat) : (flipBit e p).getLsbD n = (e.getLsbD n ^^ decide (n = p.val)) := by
  have mask : ((1 : BitVec 233) <<< p.val).getLsbD n = decide (n = p.val) := by
    have single : (1 : BitVec 233) <<< p.val = BitVec.twoPow 233 p.val := (BitVec.twoPow_eq _ _).symm
    rw [single, BitVec.getLsbD_twoPow, decide_eq_true p.isLt, Bool.true_and]
    exact decide_eq_decide.mpr eq_comm
  rw [flipBit, BitVec.getLsbD_xor, mask]

theorem flipBit_flipBit : flipBit (flipBit e p) p = e := by
  rw [flipBit, flipBit, BitVec.xor_assoc, BitVec.xor_self, BitVec.xor_zero]

/-- A changed bit adds its column to the sums that reach over it. -/
theorem columnSum_flipBit (n : Nat) :
    columnSum (flipBit e p) n = columnSum e n ^^^ if p.val < n then column p.val else 0 := by
  induction n with
  | zero => rw [if_neg (Nat.not_lt_zero _), Nat.xor_zero]; rfl
  | succ n ih =>
    rw [columnSum, columnSum, flipBit_bit, ih]
    rcases Nat.lt_trichotomy p.val n with below | rfl | above
    · rw [if_pos below, if_pos (Nat.lt_succ_of_lt below), decide_eq_false below.ne', Bool.xor_false]
      split
      · exact Nat.xor_right_comm ..
      · rfl
    · cases e.getLsbD p.val <;> simp
    · have outside : ¬ p.val < n + 1 := by omega
      rw [if_neg above.not_gt, if_neg outside, decide_eq_false above.ne, Bool.xor_false, Nat.xor_zero, Nat.xor_zero]

theorem oddOnes_flipBit (n : Nat) : oddOnes (flipBit e p) n = (oddOnes e n ^^ decide (p.val < n)) := by
  induction n with
  | zero => simp [oddOnes]
  | succ n ih =>
    have reach : decide (p.val < n + 1) = (decide (p.val < n) ^^ decide (n = p.val)) := by
      rcases Nat.lt_trichotomy p.val n with h | h | h
      · simp [h, h.ne', Nat.lt_succ_of_lt h]
      · simp [h]
      · simp [h.not_gt, h.ne]; omega
    rw [oddOnes, oddOnes, flipBit_bit, ih, reach, Bool.xor_assoc, Bool.xor_assoc, Bool.xor_left_comm (decide _)]

theorem syndrome_flipBit : syndrome (flipBit e p) = syndrome e ^^^ column p.val := by
  unfold syndrome
  rw [columnSum_flipBit]
  split
  · rfl
  · next last => rw [show p.val = 232 by omega]; rfl

theorem parity_flipBit : parity (flipBit e p) = !parity e := by
  unfold parity
  rw [oddOnes_flipBit, decide_eq_true p.isLt, Bool.xor_true]

end Changed

/-! ### The columns are distinct (R142) -/

/-- The position that a column number stands for: the check position of a power of two, and the data position counted past
the powers of two below it (R142). -/
def positionWith (c : Nat) : Nat := if c = 0 then 232 else if c = 2 ^ c.log2 then 224 + c.log2 else c - c.log2 - 2

theorem positionWith_check (k : Nat) : positionWith (2 ^ k) = 224 + k := by
  simp [positionWith]

/-- The numbers between two powers of two are the columns of data positions. -/
theorem positionWith_data (k : Nat) {c p : Nat} (low : 2 ^ k < c) (high : c < 2 ^ (k + 1)) (place : c = p + k + 2) :
    positionWith c = p := by
  have log : c.log2 = k := (Nat.log2_eq_iff (by omega)).mpr ⟨low.le, high⟩
  rw [positionWith, log, if_neg (by omega), if_neg low.ne']
  omega

/-- A position is found again from its column. -/
theorem positionWith_column {p : Nat} (h : p < 233) : positionWith (column p) = p := by
  unfold column
  split_ifs
  · exact positionWith_data 1 (by omega) (by omega) (by omega)
  · exact positionWith_data 2 (by omega) (by omega) (by omega)
  · exact positionWith_data 3 (by omega) (by omega) (by omega)
  · exact positionWith_data 4 (by omega) (by omega) (by omega)
  · exact positionWith_data 5 (by omega) (by omega) (by omega)
  · exact positionWith_data 6 (by omega) (by omega) (by omega)
  · exact positionWith_data 7 (by omega) (by omega) (by omega)
  · rw [positionWith_check]
    omega
  · rw [positionWith, if_pos rfl]
    omega

theorem column_inj {p q : Fin 233} : column p.val = column q.val ↔ p = q := by
  refine ⟨fun h => Fin.ext ?_, fun h => h ▸ rfl⟩
  rw [← positionWith_column p.isLt, h, positionWith_column q.isLt]

/-- A syndrome that is a position's column finds that position, and no other (R143). -/
theorem positionOfColumn_column (p : Fin 233) : positionOfColumn (column p.val) = some p := by
  unfold positionOfColumn
  cases found : (List.finRange 233).find? fun q => column q.val == column p.val with
  | none => simpa using List.find?_eq_none.mp found p (List.mem_finRange p)
  | some q =>
    have same := List.find?_some found
    rw [column_inj.mp (beq_iff_eq.mp same)]

/-! ### What an entry with changed bits reads as (R143) -/

theorem readOutcome_flipBit (data : BitVec 224) (p : Fin 233) :
    readOutcome (flipBit (encodeEntry data) p) = .oneChanged p := by
  simp [readOutcome, parity_flipBit, syndrome_flipBit, parity_encodeEntry, syndrome_encodeEntry, positionOfColumn_column]

theorem readOutcome_flipBit_flipBit (data : BitVec 224) {p q : Fin 233} (h : p ≠ q) :
    readOutcome (flipBit (flipBit (encodeEntry data) p) q) = .twoChanged := by
  simp [readOutcome, parity_flipBit, syndrome_flipBit, parity_encodeEntry, syndrome_encodeEntry, column_inj, h]

/-- Settles O14: a changed bit turns the parity and adds its column to the syndrome, and the columns are distinct. -/
theorem codeCorrectsOneAndDetectsTwoChangedBits : Obligations.CodeCorrectsOneAndDetectsTwoChangedBits := by
  refine ⟨fun data => ⟨readOutcome_encodeEntry data, entryData_encodeEntry data, fun p => ?_⟩,
    fun data p q => readOutcome_flipBit_flipBit data⟩
  refine ⟨readOutcome_flipBit data p, ?_⟩
  rw [flipBit_flipBit, entryData_encodeEntry]

end Sys2Proof.Machine
end

section
/-! DIAG-CAPTURE: the report of the capture record and the counts, and what it clears (R146, R147). -/

namespace Sys2Proof.Machine

open Sys2Proof

/-- The two bytes of a number of any size are those of its lowest 16 bits (R147). -/
theorem numberBytes_eq_bytes (n : Nat) : numberBytes n = [byteOf (n / 256), byteOf n] := by
  have low : numberBytes n = numberBytes (n % 65536) :=
    congrArg halfBytes (BitVec.eq_of_toNat_eq (by simp only [BitVec.toNat_ofNat, Nat.reducePow, Nat.mod_mod]))
  have byte {a b : Nat} (h : a % 256 = b % 256) : byteOf a = byteOf b := BitVec.eq_of_toNat_eq (by simpa [byteOf] using h)
  have high : byteOf (n % 65536 / 256) = byteOf (n / 256) := byte (by omega)
  rw [low, numberBytes_eq (Nat.mod_lt n (by decide)), high, byte (Nat.mod_mod_of_dvd n (by decide))]

/-- Settles O26: the item's report, for each content of the capture record, and the refusal of a body. -/
theorem diagCaptureReportsAndClears : Obligations.DiagCaptureReportsAndClears := by
  intro s body hs
  refine ⟨?_, fun full => ?_⟩
  · rintro rfl
    simp only [exec, execDiagCapture, serveDirect_idle _ _ hs, diagCaptureItem, if_true, diagContent, numberBytes_eq_bytes]
    rcases s.memory.capture with _ | ⟨_ | _, i, found⟩ <;> rfl
  · simp only [exec, execDiagCapture, serveDirect_idle _ _ hs, diagCaptureItem, if_neg full]
    rfl

end Sys2Proof.Machine
end

section
/-! RAW-READ and RAW-WRITE (R152, R153, R184). -/

namespace Sys2Proof.Machine

open Sys2Proof

/-! ### The 30 bytes of an entry (R184) -/

section Stored

variable (e : BitVec 233)

theorem storedBytes_length : (storedBytes e).length = 30 := by simp [storedBytes, unpackRecord]

theorem byteAt_storedBytes_data {n : Nat} (h : n < 28) : byteAt (storedBytes e) n = recordByte (entryData e) n := by
  simp [byteAt, storedBytes, unpackRecord, List.getElem?_append_left, h]

theorem byteAt_storedBytes_check : byteAt (storedBytes e) 28 = e.extractLsb' 224 8 := rfl

theorem byteAt_storedBytes_parity : byteAt (storedBytes e) 29 = (e.extractLsb' 232 1).setWidth 8 := rfl

/-- Bit b of byte n is the stored bit at position 8 n + b (R184). -/
theorem storedBytes_bit {n b : Nat} (hb : b < 8) (h : 8 * n + b < 233) :
    (byteAt (storedBytes e) n).getLsbD b = e.getLsbD (8 * n + b) := by
  rcases Nat.lt_trichotomy n 28 with data | rfl | parity
  · have inside : 8 * n + b < 224 := by omega
    rw [byteAt_storedBytes_data e data, recordByte_bit _ n hb, entryData, BitVec.getLsbD_setWidth, decide_eq_true inside,
      Bool.true_and]
  · rw [byteAt_storedBytes_check, BitVec.getLsbD_extractLsb', decide_eq_true hb, Bool.true_and]
  · obtain ⟨rfl, rfl⟩ : n = 29 ∧ b = 0 := by omega
    rw [byteAt_storedBytes_parity, BitVec.getLsbD_setWidth, BitVec.getLsbD_extractLsb']
    rfl

/-- Bits 1 to 7 of the last byte are 0 (R184). -/
theorem storedBytes_spare {b : Nat} (hb : 1 ≤ b) : (byteAt (storedBytes e) 29).getLsbD b = false := by
  have outside : ¬ b < 1 := Nat.not_lt.mpr hb
  rw [byteAt_storedBytes_parity, BitVec.getLsbD_setWidth, BitVec.getLsbD_extractLsb', decide_eq_false outside, Bool.false_and,
    Bool.and_false]

end Stored

/-! ### The body of a RAW-WRITE (R152) -/

theorem flipFields_eq_some {bytes : List Byte} {flips : List (Fin 233)} :
    flipFields bytes = some flips ↔ bytes = flips.map fun p => byteOf p.val := by
  induction bytes generalizing flips with
  | nil => cases flips <;> simp [flipFields]
  | cons b rest ih =>
    have next : flipFields (b :: rest) = (numberField 233 b).bind fun p => (flipFields rest).map (p :: ·) := by
      simp [flipFields, List.mapM_cons, Option.map_eq_bind]
    cases flips with
    | nil => simp [next, Option.bind_eq_some_iff]
    | cons p flips =>
      simp [next, Option.bind_eq_some_iff, numberField_eq_some (show 233 ≤ 256 by decide), ih]

/-- What a RAW-WRITE's bytes give: an index, 28 data bytes and no more than two positions (R152). -/
theorem parseRawWrite_spelled {i : Fin 256} {data : List Byte} {flips : List (Fin 233)} (hd : data.length = 28)
    (hf : flips.length ≤ 2) :
    parseRawWrite (byteOf i.val :: byteOf flips.length :: (data ++ flips.map fun p => byteOf p.val)) =
      some (i, packRecord data, flips) := by
  have count : (byteOf flips.length).toNat = flips.length := byteOf_toNat (by omega)
  have index : (byteOf i.val).toFin = i := Fin.ext (byteOf_toNat i.isLt)
  have fields : flipFields (flips.map fun p => byteOf p.val) = some flips := flipFields_eq_some.mpr rfl
  have drop : (data ++ flips.map fun p => byteOf p.val).drop 28 = flips.map fun p => byteOf p.val := List.drop_left' hd
  have take : (data ++ flips.map fun p => byteOf p.val).take 28 = data := List.take_left' hd
  simp [parseRawWrite, count, index, hd, hf, drop, take, fields]

/-- A body that is read as a RAW-WRITE spells one (R152). -/
theorem parseRawWrite_spells {body : List Byte} {i : Fin 256} {record : BitVec 224} {flips : List (Fin 233)}
    (h : parseRawWrite body = some (i, record, flips)) :
    ∃ data : List Byte, data.length = 28 ∧ flips.length ≤ 2 ∧
      body = byteOf i.val :: byteOf flips.length :: (data ++ flips.map fun p => byteOf p.val) := by
  match body with
  | [] | [_] => cases h
  | index :: count :: rest =>
    simp only [parseRawWrite] at h
    split at h
    · next shape =>
      obtain ⟨few, length⟩ := shape
      obtain ⟨_, fields, parts⟩ := Option.map_eq_some_iff.mp h
      cases parts
      have spelled := flipFields_eq_some.mp fields
      have counted : flips.length = count.toNat := by
        rw [← List.length_map (f := fun p : Fin 233 => byteOf p.val), ← spelled, List.length_drop]
        omega
      have byte (b : Byte) : byteOf b.toNat = b := BitVec.ofNat_toNat ..
      refine ⟨rest.take 28, by simp; omega, counted ▸ few, ?_⟩
      rw [← spelled, List.take_append_drop, counted, byte]
      exact congrArg (· :: _) (byte index).symm
    · cases h

/-! ### The items when they are served -/

section Served

variable {s t : State} {body : List Byte} {reply : Reply}

theorem rawReadItem_take (body : List Byte) (s : State) (w : WorkItem) :
    rawReadItem body (s.take w) = ((rawReadItem body s).1.take w, (rawReadItem body s).2) := by
  unfold rawReadItem
  split <;> rfl

theorem rawWriteItem_take (body : List Byte) (s : State) (w : WorkItem) :
    rawWriteItem body (s.take w) = ((rawWriteItem body s).1.take w, (rawWriteItem body s).2) := by
  unfold rawWriteItem
  split <;> rfl

theorem exec_rawRead_served (hs : s.serving 0x0E body) (h : rawReadItem body s = (t, reply))
    (ht : t.engine.inFlight = s.engine.inFlight) : exec (.rawRead body) s = .next (t.withHandler (.reply reply)) :=
  congrArg _ (serveItem_of_outcome hs (rawReadItem_take body s) h ht)

theorem exec_rawWrite_served (hs : s.serving 0x0F body) (h : rawWriteItem body s = (t, reply))
    (ht : t.engine.inFlight = s.engine.inFlight) : exec (.rawWrite body) s = .next (t.withHandler (.reply reply)) :=
  congrArg _ (serveItem_of_outcome hs (rawWriteItem_take body s) h ht)

theorem exec_rawRead_index {i : Fin 256} (hs : s.serving 0x0E [byteOf i.val]) : exec (.rawRead [byteOf i.val]) s =
    .next (s.replying 0x0E .ok (byteOf i.val :: ruleStateCode (s.rule i) :: storedBytes s.memory.entries[i])) :=
  exec_rawRead_served hs (by simp only [rawReadItem, oneNumber_of_index]; rfl) rfl

theorem exec_rawRead_refused (hs : s.serving 0x0E body) (h : body.length ≠ 1) :
    exec (.rawRead body) s = .next (s.replying 0x0E .invalid []) :=
  exec_rawRead_served hs
    (by simp only [rawReadItem, oneNumber_of_length_ne (Nat.le_refl 256) h, Reply.invalid]) rfl

theorem exec_rawWrite_written {i : Fin 256} {data : List Byte} {flips : List (Fin 233)}
    (hs : s.serving 0x0F (byteOf i.val :: byteOf flips.length :: (data ++ flips.map fun p => byteOf p.val)))
    (hd : data.length = 28) (hf : flips.length ≤ 2) :
    exec (.rawWrite (byteOf i.val :: byteOf flips.length :: (data ++ flips.map fun p => byteOf p.val))) s =
      .next ((s.writeRule i (flips.foldl flipBit (encodeEntry (packRecord data)))
          (if (byteAt data 1).getLsbD 6 then .disabled else .enabled)).replying
        0x0F .ok [byteOf i.val, if (byteAt data 1).getLsbD 6 then 2 else 1]) := by
  refine exec_rawWrite_served hs ?_ rfl
  simp only [rawWriteItem, parseRawWrite_spelled hd hf, recordByte_packRecord data (show 1 < 28 by decide)]
  cases (byteAt data 1).getLsbD 6 <;> rfl

theorem exec_rawWrite_refused (hs : s.serving 0x0F body) (h : parseRawWrite body = none) :
    exec (.rawWrite body) s = .next (s.replying 0x0F .invalid []) :=
  exec_rawWrite_served hs (by simp only [rawWriteItem, h, Reply.invalid]) rfl

end Served

/-- Settles O34: the bytes of a read entry, bit by bit; the entry that a write leaves; the refusals. -/
theorem rawAccessMovesTheStoredBits : Obligations.RawAccessMovesTheStoredBits := by
  refine ⟨fun s body hs => ⟨?_, exec_rawRead_refused hs⟩, fun s body hs => ⟨?_, fun bad => ?_⟩⟩
  · rintro i rfl
    exact ⟨_, exec_rawRead_index hs, storedBytes_length _, fun n b _ => storedBytes_bit _, fun b => storedBytes_spare _⟩
  · rintro i data flips hd hf rfl
    exact ⟨_, exec_rawWrite_written hs hd hf, rfl, rfl, s.memory.write_writeBack i _⟩
  · refine exec_rawWrite_refused hs (Option.eq_none_iff_forall_ne_some.mpr ?_)
    rintro ⟨i, record, flips⟩ read
    obtain ⟨data, spelled⟩ := parseRawWrite_spells read
    exact bad ⟨i, data, flips, spelled⟩

end Sys2Proof.Machine
end

section
/-! The scrubber's slots, the end of a visit, and upsets of stored bits (R141, R144, R145, R148, R149). -/

namespace Sys2Proof.Machine

open Sys2Proof

/-! ### Upsets (R141) -/

section Upsets

variable (s : State) (i : Fin 256) (p : Fin 233)

theorem exec_bitUpset : exec (.bitUpset i p) s = .next (s.upset i p) := rfl

theorem State.upset_entry_self : (s.upset i p).memory.entries[i] = flipBit s.memory.entries[i] p := by
  simp [State.upset, State.withMemory]

theorem State.upset_entry_ne {j : Fin 256} (h : j ≠ i) : (s.upset i p).memory.entries[j] = s.memory.entries[j] := by
  simp [State.upset, State.withMemory, Fin.val_ne_of_ne h.symm]

end Upsets

/-! ### The end of a visit (R149) -/

section Visits

variable {m : RuleMemory} {s : State}

theorem RuleMemory.endVisit_of_none (h : m.writeBack = none) : m.endVisit = m := by
  simp only [RuleMemory.endVisit, h]

theorem RuleMemory.endVisit_of_some {w : WriteBack} (h : m.writeBack = some w) :
    m.endVisit = { m with entries := m.entries.set w.rule w.entry, writeBack := none } := by
  simp only [RuleMemory.endVisit, h]

/-- With no visit open, the end of one leaves the state. -/
theorem State.withMemory_endVisit_of_none (h : s.memory.writeBack = none) : s.withMemory s.memory.endVisit = s := by
  rw [RuleMemory.endVisit_of_none h]
  rfl

theorem exec_scrubWriteBack (high : s.rstnLow = false) : exec .scrubWriteBack s = .next (s.withMemory s.memory.endVisit) := by
  simp [exec, execScrubWriteBack, State.alive, high]

end Visits

/-! ### A slot (R148) -/

section Slots

variable {s : State} {i : Fin 256}

theorem exec_scrubSlot (high : s.rstnLow = false) : exec .scrubSlot s = .next s.scrubSlot := by
  simp [exec, execScrubSlot, State.alive, high]

/-- A slot finds the entries as they stand behind the end of a visit still open (log 17). -/
theorem State.scrubSlot_endVisit : (s.withMemory s.memory.endVisit).scrubSlot = s.scrubSlot := by
  cases h : s.memory.writeBack with
  | none => rw [State.withMemory_endVisit_of_none h]
  | some w =>
    unfold State.scrubSlot
    rw [RuleMemory.endVisit_of_some h]
    rfl

theorem State.scrubSlot_off (closed : s.memory.writeBack = none) (off : s.engine.scrub = false) : s.scrubSlot = s := by
  simp [State.scrubSlot, State.withMemory_endVisit_of_none closed, off]

theorem State.scrubSlot_on (closed : s.memory.writeBack = none) (on : s.engine.scrub = true) :
    s.scrubSlot = s.scrubVisit.withMemory s.scrubVisit.memory.advance := by
  simp [State.scrubSlot, State.withMemory_endVisit_of_none closed, on]

theorem RuleState.scrubbed_iff (r : RuleState) : r.scrubbed = true ↔ r ≠ .empty ∧ r ≠ .quarantined := by
  cases r <;> decide

/-- A correction that the scrubber finds waits as the pending write-back for the end of its visit (R144, R149). -/
theorem State.noteCorrected_pending (s : State) (i : Fin 256) (p : Fin 233) (fixed : BitVec 233) :
    s.noteCorrected .scrub i p fixed = s.withMemory { s.memory with
      corrected := min (s.memory.corrected + 1) (max s.memory.corrected 65535),
      capture := some (s.memory.capture.getD ⟨.corrected p, i, .scrub⟩),
      writeBack := some ⟨i, fixed⟩ } := by
  simp only [State.noteCorrected, RuleMemory.correct, RuleMemory.captured_eq, saturate_eq_min]

/-- A visit reads the entry at the scrub index, with the effects of a checked read (R148). -/
theorem State.scrubVisit_read (h : s.memory.scrubIndex = i) (written : s.rule i ≠ .empty) (inPlay : s.rule i ≠ .quarantined) :
    s.scrubVisit = (checkedRead .scrub i s).1 := by
  subst h
  rw [State.scrubVisit, if_pos ((RuleState.scrubbed_iff _).mpr ⟨written, inPlay⟩)]

/-- A visit leaves the state: of an EMPTY or QUARANTINED rule, and of an entry that reads clean (R144, R148). -/
theorem State.scrubVisit_unchanged (h : s.memory.scrubIndex = i)
    (same : s.rule i = .empty ∨ s.rule i = .quarantined ∨ readOutcome s.memory.entries[i] = .clean) : s.scrubVisit = s := by
  subst h
  unfold State.scrubVisit
  split
  · next scrubbed =>
    obtain ⟨written, inPlay⟩ := (RuleState.scrubbed_iff _).mp scrubbed
    rcases same with empty | quarantined | clean
    · exact absurd empty written
    · exact absurd quarantined inPlay
    · rw [checkedRead_clean clean]
  · rfl

end Slots

/-- Settles O43: an upset; the end of a visit; a slot by what its visit reads. -/
theorem scrubberVisitsAndUpsets : Obligations.ScrubberVisitsAndUpsets := by
  intro s
  refine ⟨fun i p => ⟨_, exec_bitUpset s i p, rfl, fun j => s.upset_entry_ne i p, fun n _ => ?_⟩,
    fun high => ⟨fun closed => ?_, fun w pending => ⟨?_, ?_⟩, fun closed off => ?_, fun i next closed on index step => ?_⟩⟩
  · rw [s.upset_entry_self, flipBit_bit]
    rfl
  · rw [exec_scrubWriteBack high, RuleMemory.endVisit_of_none closed]
    rfl
  · rw [exec_scrubWriteBack high, RuleMemory.endVisit_of_some pending]
  · rw [← RuleMemory.endVisit_of_some pending, exec_scrubSlot high,
      exec_scrubSlot (s := s.withMemory s.memory.endVisit) high, State.scrubSlot_endVisit]
  · rw [exec_scrubSlot high, State.scrubSlot_off closed off]
  · rw [exec_scrubSlot high, State.scrubSlot_on closed on]
    obtain rfl : s.memory.scrubIndex + 1 = next := Fin.ext (by rw [step, ← index, Fin.val_add]; rfl)
    refine ⟨fun same => ?_, fun p written inPlay changed => ?_, fun written inPlay lost => ?_⟩
    · rw [State.scrubVisit_unchanged index same]
      rfl
    · rw [State.scrubVisit_read index written inPlay, checkedRead_oneChanged changed, State.noteCorrected_pending]
      rfl
    · rw [State.scrubVisit_read index written inPlay, checkedRead_twoChanged lost, State.noteLost_eq, if_neg written]
      rfl

end Sys2Proof.Machine
end

section
/-! The end of a frame on UPTX (R161, R163, R174). -/

namespace Sys2Proof.Machine

open Sys2Proof

section FrameEnd

variable {s : State}

/-- A frame that ends leaves UPTX, and its source with it (R161, R174). -/
theorem exec_transmitFrameEnd_sent (high : s.rstnLow = false) {source : TxSource} {line : List Byte}
    (sending : s.uplink.tx = some ⟨source, line⟩) :
    exec .transmitFrameEnd s = .next ((s.withUplink { s.uplink with tx := none }).frameSent source) := by
  simp [exec, execTransmitFrameEnd, State.alive, high, sending]

theorem exec_transmitFrameEnd_none (quiet : s.uplink.tx = none) : exec .transmitFrameEnd s = .next s := by
  simp [exec, execTransmitFrameEnd, quiet]

theorem State.frameSent_quest {n : QuestNotice} {rest : List QuestNotice} (head : s.notices.quests = n :: rest) :
    s.frameSent (.quest true) = s.withNotices { s.notices with quests := rest } := by
  simp [State.frameSent, head]

theorem State.frameSent_event {e : Echo} {rest : List Echo} (head : s.notices.events = e :: rest) :
    s.frameSent (.event true) = s.withNotices { s.notices with events := rest } := by
  simp [State.frameSent, head]

end FrameEnd

/-- Settles O21: source by source. An alert has left its queue when its frame began, and a notice or echo that GAME-RESET has
taken from its queue is not taken again. -/
theorem frameEndReleasesItsSource : Obligations.FrameEndReleasesItsSource := by
  intro s line high
  refine ⟨fun reply => exec_transmitFrameEnd_sent high reply, fun alert => exec_transmitFrameEnd_sent high alert,
    fun n rest quest head => ?_, fun e rest echo head => ?_, fun gone => ?_, exec_transmitFrameEnd_none⟩
  · rw [exec_transmitFrameEnd_sent high quest, State.frameSent_quest (by exact head)]
    rfl
  · rw [exec_transmitFrameEnd_sent high echo, State.frameSent_event (by exact head)]
    rfl
  · rcases gone with quest | echo
    · exact exec_transmitFrameEnd_sent high quest
    · exact exec_transmitFrameEnd_sent high echo

end Sys2Proof.Machine
end

section
/-! The ALERT queue stays within 8 entries and free of repeats (R154 to R157): raising an alert, the uplink port, the rotation
and the answers, and the requests that touch an arm. -/

namespace Sys2Proof.Machine

open Sys2Proof

/-! ### The queue -/

/-- An ALERT queue of at most 8 entries, distinct in kind and subject, each with a repeat count of 1 to 255 (R154, R155). -/
def AlertsSound (q : List AlertEntry) : Prop :=
  q.length ≤ 8 ∧ q.Pairwise (fun x y => x.alert.sameSubject y.alert = false) ∧ ∀ e ∈ q, 1 ≤ e.count ∧ e.count ≤ 255

theorem State.alertsSound_iff (s : State) : s.alertsSound ↔ AlertsSound s.notices.alerts := Iff.rfl

namespace AlertsSound

variable {q pre post : List AlertEntry} {e : AlertEntry}

/-- One more occurrence leaves the kinds and subjects as they are, and a count saturates at 255 (R155, R156). -/
theorem counted (h : AlertsSound (pre ++ e :: post)) :
    AlertsSound (pre ++ { e with count := saturate 255 e.count } :: post) := by
  obtain ⟨short, distinct, counts⟩ := h
  refine ⟨by simpa using short, ?_, fun x hx => ?_⟩
  · rw [← List.pairwise_map (f := AlertEntry.alert) (R := fun x y => x.sameSubject y = false)] at distinct ⊢
    simpa using distinct
  · obtain before | rfl | behind : x ∈ pre ∨ x = { e with count := saturate 255 e.count } ∨ x ∈ post := by simpa using hx
    · exact counts x (by simp [before])
    · obtain ⟨low, high⟩ := counts e (by simp)
      rw [saturate_eq_min]
      exact ⟨le_min (Nat.le_add_left 1 _) (low.trans (le_max_left _ _)), (min_le_right _ _).trans (max_le high le_rfl)⟩
    · exact counts x (by simp [behind])

/-- A new alert joins at the tail, with a count of 1 (R156). -/
theorem joined (h : AlertsSound q) {al : Alert} (new : ∀ x ∈ q, x.alert.sameSubject al = false) (room : q.length < 8) :
    AlertsSound (q ++ [⟨al, 1⟩]) := by
  obtain ⟨-, distinct, counts⟩ := h
  refine ⟨by simpa using room, List.pairwise_append.mpr ⟨distinct, List.pairwise_singleton _ _, ?_⟩, fun x hx => ?_⟩
  · simpa using new
  · obtain old | rfl : x ∈ q ∨ x = ⟨al, 1⟩ := by simpa using hx
    · exact counts x old
    · exact ⟨Nat.le_refl 1, by simp⟩

theorem raised (h : AlertsSound q) (al : Alert) : AlertsSound (raiseAlert q al) := by
  rcases raiseAlert_cases q al with ⟨pre, e, post, rfl, -, -, coalesced⟩ | ⟨new, room, appended⟩ | ⟨-, -, discarded⟩
  · rw [coalesced]
    exact h.counted
  · rw [appended]
    exact h.joined new room
  · rwa [discarded]

/-- The entry whose frame begins leaves the queue (R161). -/
theorem of_cons (h : AlertsSound (e :: q)) : AlertsSound q := by
  obtain ⟨short, distinct, counts⟩ := h
  exact ⟨by simp only [List.length_cons] at short; omega, distinct.of_cons, fun x hx => counts x (List.mem_cons_of_mem e hx)⟩

/-- The queue after a reset: empty, or one STARTED (R140, R158). -/
theorem nil : AlertsSound [] := ⟨Nat.zero_le _, .nil, nofun⟩

theorem singleton (al : Alert) : AlertsSound [⟨al, 1⟩] := nil.joined nofun (by decide)

end AlertsSound

/-! ### The state -/

namespace State.alertsSound

variable {s t : State} {i : ArmId}

/-- Nothing but the ALERT queue counts. -/
theorem kept (h : s.alertsSound) (alerts : t.notices.alerts = s.notices.alerts) : t.alertsSound := by
  rw [State.alertsSound_iff, alerts]
  exact h

theorem withArm (h : s.alertsSound) (i : ArmId) (x : Arm) : (s.withArm i x).alertsSound := h.kept (by rw [State.withArm_notices])

theorem raise (h : s.alertsSound) (al : Alert) : (s.raise al).alertsSound := AlertsSound.raised h al

theorem raiseOpt (h : s.alertsSound) (al : Option Alert) : (s.raiseOpt al).alertsSound := by
  cases al with
  | none => exact h
  | some al => exact h.raise al

theorem withUplink (h : s.alertsSound) (u : Uplink) : (s.withUplink u).alertsSound := h

/-- The engine's hold on the ALERT queue is to raise alerts. -/
theorem keptByEngine : KeptByEngine State.alertsSound where
  engine h _ := h
  timers h _ := h
  memory h _ := h
  raise h al := h.raise al
  notify h _ := h
  placeEcho h _ := h
  enqueue {s} h i e := by
    rw [State.enqueue_eq]
    exact h.withArm i _

/-! ### The uplink port (R161 to R172) -/

theorem garble (h : s.alertsSound) (next : RxState) : (s.garble next).alertsSound := (h.withUplink _).raise _

theorem endFrame (h : s.alertsSound) : s.endFrame.alertsSound := by
  rcases s.endFrame_cases with ⟨-, he⟩ | ⟨-, he⟩ <;> rw [he]
  · exact h.withUplink _
  · exact h.garble .idle

theorem storeByte (h : s.alertsSound) (b : Byte) : (s.storeByte b).alertsSound := by
  rcases s.storeByte_cases b with ⟨-, hb⟩ | ⟨-, u, -, ⟨-, hb⟩ | ⟨-, ⟨-, hb⟩ | ⟨-, hb⟩⟩⟩ <;> rw [hb]
  · exact h.garble .discard
  · exact (h.withUplink u).garble .discard
  · exact (h.withUplink u).endFrame
  · exact h.withUplink u

theorem contentByte (h : s.alertsSound) (b : Byte) : (s.contentByte b).alertsSound := by
  unfold State.contentByte
  split
  · split
    · exact h.garble .discard
    · exact h.withUplink _
  · split
    · split
      · exact h.storeByte _
      · exact h.garble .discard
    · exact h.storeByte b

theorem frameByte (h : s.alertsSound) (b : Byte) (stopOk : Bool) : (s.frameByte b stopOk).alertsSound := by
  unfold State.frameByte
  split
  · split
    · exact h.withUplink _
    · exact (h.withUplink _).raise _
  · split
    · exact h.garble .discard
    · split
      · exact (h.garble .frame).withUplink _
      · exact h.contentByte b
  · split
    · exact h.withUplink _
    · exact h

/-- The alert whose frame begins leaves its queue then, the other sources when their frame ends (R161). -/
theorem startFrame (h : s.alertsSound) : s.startFrame.alertsSound := by
  rcases s.startFrame_cases with ⟨r, -, begins⟩ | ⟨-, ⟨e, rest, alert, begins⟩ | ⟨-, n, rest, -, begins⟩ |
    ⟨-, -, e, rest, -, begins⟩ | ⟨-, -, -, begins⟩⟩ <;> rw [begins]
  · exact h
  · have queue : AlertsSound (e :: rest) := alert ▸ h
    exact queue.of_cons
  · exact h
  · exact h
  · exact h

theorem receive (h : s.alertsSound) (b : Byte) (stopOk : Bool) : (s.receive b stopOk).alertsSound := by
  unfold State.receive State.hostHold State.hostGo
  split
  · split
    · exact h.withUplink _
    · split
      · simp only []
        split
        · exact (h.withUplink _).startFrame
        · exact h.withUplink _
      · exact h.frameByte b stopOk
  · exact h

theorem frameSent (h : s.alertsSound) (source : TxSource) : (s.frameSent source).alertsSound := by
  cases source with
  | reply | alert => exact h
  | quest held | event held => cases held <;> exact h

/-! ### The rotation (R27, R28, R39) -/

theorem movePass (h : s.alertsSound) (i : ArmId) : (s.movePass i).alertsSound := by
  rcases s.movePass_cases i with hm | ⟨-, hm⟩ | ⟨-, -, hm⟩ | ⟨-, -, hm⟩ | ⟨-, -, -, hm⟩ | ⟨-, -, -, hm⟩ <;> rw [hm]
  · exact h
  · exact h.withArm i _
  · exact h.withArm i _
  · exact h.withArm i _
  · exact (h.withArm i _).raise _
  · exact h.withArm i _

theorem movePasses (h : s.alertsSound) (i : ArmId) (hold : Bool) (n : Nat) : (s.movePasses i hold n).alertsSound :=
  State.movePasses_induct State.alertsSound i (fun _ h _ _ => h.movePass i) hold n s h

theorem bring (h : s.alertsSound) (i : ArmId) : (s.bring i).alertsSound := h.movePasses i _ 6

theorem settle (h : s.alertsSound) (i : ArmId) : (s.settle i).alertsSound := h.movePasses i _ 6

theorem received (h : s.alertsSound) (i : ArmId) (x : Arm) : (s.received i x).alertsSound := (h.withArm i _).bring i

theorem waitOver (h : s.alertsSound) (i : ArmId) (f : StartMark → StartMark) : (s.waitOver i f).alertsSound := by
  unfold State.waitOver
  simp only []
  split
  · split
    · exact (h.withArm i _).bring i
    · exact h.withArm i _
  · exact h

/-! ### Answers and misses (R11 to R16, R29 to R32, R43) -/

theorem acceptEvent (h : s.alertsSound) (i : ArmId) (p : Fin 32) (e : TileEvent) (toggle : Bool) :
    (s.acceptEvent i p e toggle).alertsSound := by
  rcases s.acceptEvent_cases i p e toggle rfl rfl with ⟨-, ha⟩ | ⟨-, -, ha⟩ | ⟨-, -, ha⟩ <;> rw [ha]
  · exact h.withArm i _
  · exact h.withArm i _
  · exact ((h.withArm i _).withArm _ _).raise .wake

theorem answerPresent (h : s.alertsSound) (i : ArmId) (p : Fin 32) (ans : Answer) :
    (s.answerPresent i p ans).1.alertsSound := by
  cases ans with
  | event e toggle more =>
    simp only [State.answerPresent]
    split
    · exact h.withArm i _
    · exact (h.withArm i _).acceptEvent i p e toggle
  | idle | hello kind => exact h.withArm i _

theorem answerValid (h : s.alertsSound) (i : ArmId) (p : Fin 32) (ans : Answer) : (s.answerValid i p ans).1.alertsSound := by
  unfold State.answerValid
  simp only []
  split
  · split
    · exact h
    · exact (h.withArm i _).raiseOpt _
  · split
    · exact h.answerPresent i p ans
    · exact ((h.withArm i _).raise _).answerPresent i p ans
    · exact h.withArm i _
    · exact h
    · exact h

theorem answerMissed (h : s.alertsSound) (i : ArmId) (p : Fin 32) : (s.answerMissed i p).1.alertsSound :=
  (h.withArm i _).raiseOpt _

theorem afterOutcome {r : State × Bool} (h : r.1.alertsSound) (i : ArmId) : (State.afterOutcome i r).alertsSound := by
  unfold State.afterOutcome
  refine bring ?_ i
  split
  · exact h
  · exact h.withArm i _

theorem endPoll (h : s.alertsSound) (i : ArmId) (poll : Poll) (valid : Bool) : (s.endPoll i poll valid).alertsSound :=
  h.withArm i _

theorem pollAnswered (h : s.alertsSound) (i : ArmId) (poll : Poll) (bytes : List LineByte) :
    (s.pollAnswered i poll bytes).alertsSound := by
  unfold State.pollAnswered
  split
  · exact ((h.endPoll i poll true).answerValid i _ _).afterOutcome i
  · exact (((h.endPoll i poll false).withArm i _).answerMissed i _).afterOutcome i

/-- Every command of one arm's pair. -/
theorem exec_armOf (h : s.alertsSound) {c : Instr} (hc : Instr.armOf c = some i) : ∃ t, exec c s = .next t ∧ t.alertsSound := by
  cases c <;> cases hc
  case dozeWaitEnd | emptyRotationWaitEnd => exact ⟨_, rfl, h.waitOver i _⟩
  case pollSend | effectFrameSend | assignSend =>
    refine ⟨_, rfl, ?_⟩
    split
    · simp only []
      split
      · exact (h.bring i).withArm i _
      · exact h.bring i
    · exact h
  case effectFrameEnd | assignEnd =>
    refine ⟨_, rfl, ?_⟩
    split
    · exact (h.withArm i _).settle i
    · exact h
  case strayFrame =>
    refine ⟨_, rfl, ?_⟩
    split
    · exact h.received i _
    · exact h
  case pollAnswer bytes =>
    refine ⟨_, rfl, ?_⟩
    split
    · exact h.pollAnswered i _ bytes
    · exact h.received i _
    · exact h
  case replyWindowClose =>
    refine ⟨_, rfl, ?_⟩
    split
    · exact ((h.endPoll i _ false).answerMissed i _).afterOutcome i
    · exact h.received i _
    · exact h

end State.alertsSound

end Sys2Proof.Machine
end

section
/-! Every command keeps the ALERT queue within 8 entries and free of repeats (R154 to R158). -/

namespace Sys2Proof.Machine

open Sys2Proof

/-! ### The requests -/

/-- An item that keeps the ALERT queue sound. -/
def keepsAlerts (item : List Byte → State → State × Reply) : Prop :=
  ∀ (body : List Byte) (s : State), s.alertsSound → (item body s).1.alertsSound

theorem EngineItem.keepsAlerts {item : List Byte → State → State × Reply} (hi : EngineItem item) : keepsAlerts item :=
  fun body _ h => State.alertsSound.keptByEngine.item h hi body

theorem keepsAlerts_armStart : keepsAlerts armStartItem := by
  intro body s h
  unfold armStartItem
  split
  · exact h
  split
  · exact h
  · exact h.withArm _ _

theorem keepsAlerts_armStop : keepsAlerts armStopItem := by
  intro body s h
  unfold armStopItem
  split
  · exact h
  · exact h.withArm _ _

theorem keepsAlerts_doze : keepsAlerts dozeItem := by
  intro body s h
  unfold dozeItem
  split <;> exact h

/-- A TILE-WRITE may end a rotation, and with it raise the arm's fault (R28, R39). -/
theorem keepsAlerts_tileWrite : keepsAlerts tileWriteItem := by
  intro body s h
  unfold tileWriteItem State.tileWritten
  split
  · exact h
  · next k r _ =>
    have stored (x : Arm) : ((s.withTileMap (s.tileMap.set k r)).withArm (indexArm k) x).alertsSound :=
      State.alertsSound.withArm (s := s.withTileMap (s.tileMap.set k r)) h (indexArm k) x
    simp only []
    split
    · exact stored _
    · exact (stored _).bring _

theorem keepsAlerts_effectSend : keepsAlerts effectSendItem := by
  intro body s h
  unfold effectSendItem
  split
  · exact h
  split
  · exact h
  split
  · exact h
  · exact State.alertsSound.keptByEngine.enqueue h _ _

/-- GAME-RESET empties the other two notice queues and leaves the ALERT queue (R139). -/
theorem keepsAlerts_gameReset : keepsAlerts gameResetItem := by
  intro body s h
  unfold gameResetItem
  split <;> exact h

theorem keepsAlerts_directItem {kind : Byte} {item : List Byte → State → State × Reply} (hd : directItem kind = some item) :
    keepsAlerts item := by
  unfold directItem at hd
  split at hd <;> cases hd
  · exact EngineItem.identify.keepsAlerts
  · exact EngineItem.armStatus.keepsAlerts
  · exact EngineItem.tileRead.keepsAlerts
  · exact keepsAlerts_armStart
  · exact keepsAlerts_armStop
  · exact keepsAlerts_doze
  · exact EngineItem.diagCapture.keepsAlerts

section Commands

variable {s : State}

namespace State.alertsSound

theorem serveDirect (h : s.alertsSound) {item : List Byte → State → State × Reply} (hi : keepsAlerts item)
    (body : List Byte) : (serveDirect item body s).alertsSound := by
  rcases serveDirect_cases item body s with ⟨-, hs⟩ | ⟨-, hs⟩ <;> rw [hs]
  · exact hi body s h
  · exact h

theorem serveItem (h : s.alertsSound) {item : List Byte → State → State × Reply} (hi : keepsAlerts item) (kind : Byte)
    (body : List Byte) : (serveItem kind item body s).alertsSound := by
  rcases serveItem_cases kind item body s with ⟨-, hs⟩ | ⟨-, hs⟩ <;> rw [hs]
  · exact hi body (s.take (.management kind body)) h
  · exact h

theorem decodeRequest (h : s.alertsSound) (kind : Byte) (body : List Byte) : (s.decodeRequest kind body).alertsSound := by
  unfold State.decodeRequest
  split
  · next item hd => exact keepsAlerts_directItem hd body s h
  · split <;> exact h

/-! ### All commands but the takes of event items -/

theorem exec_of_not_take (h : s.alertsSound) {c : Instr} (takes : ¬ takesEvent c) :
    ∃ t, exec c s = .next t ∧ t.alertsSound := by
  have direct {kind : Byte} {item : List Byte → State → State × Reply} (hd : directItem kind = some item) (body : List Byte) :
      (Machine.serveDirect item body s).alertsSound := h.serveDirect (keepsAlerts_directItem hd) body
  have engine {item : List Byte → State → State × Reply} (hi : EngineItem item) (kind : Byte) (body : List Byte) :
      (Machine.serveItem kind item body s).alertsSound := h.serveItem hi.keepsAlerts kind body
  simp only [takesEvent, not_or] at takes
  obtain ⟨tile, expiry, injected⟩ := takes
  cases c with
  | tileEventTake => exact absurd rfl tile
  | expiryTake => exact absurd rfl expiry
  | injectTake => exact absurd rfl injected
  | powerOn => exact ⟨_, exec_powerOn s, AlertsSound.singleton _⟩
  | resetLine => exact ⟨_, exec_resetLine s, AlertsSound.nil⟩
  | rstnRelease =>
    cases level : s.rstnLow with
    | true => exact ⟨_, exec_rstnRelease_low s level, AlertsSound.singleton _⟩
    | false => exact ⟨_, exec_rstnRelease_high s level, h⟩
  | uplinkByteReceived b ok => exact ⟨_, rfl, h.receive b ok⟩
  | holdReceived ok => exact ⟨_, rfl, h.receive 0xF1 ok⟩
  | goReceived ok => exact ⟨_, rfl, h.receive 0xF2 ok⟩
  | partialFrameTimeout =>
    refine ⟨_, rfl, ?_⟩
    split
    · exact h.garble .idle
    · exact h
  | discardQuiet | flowByteSend =>
    refine ⟨_, rfl, ?_⟩
    split <;> exact h
  | transmitFrameStart =>
    refine ⟨_, rfl, ?_⟩
    split
    · exact h.startFrame
    · exact h
  | transmitFrameEnd =>
    refine ⟨_, rfl, ?_⟩
    split
    · exact (h.withUplink _).frameSent _
    · exact h
  | requestTake =>
    refine ⟨_, rfl, ?_⟩
    split
    · exact (h.withUplink _).decodeRequest _ _
    · exact h
  | identify body => exact ⟨_, rfl, direct (kind := 0x01) rfl body⟩
  | armStatus body => exact ⟨_, rfl, direct (kind := 0x02) rfl body⟩
  | tileRead body => exact ⟨_, rfl, direct (kind := 0x03) rfl body⟩
  | armStart body => exact ⟨_, rfl, direct (kind := 0x04) rfl body⟩
  | armStop body => exact ⟨_, rfl, direct (kind := 0x05) rfl body⟩
  | doze body => exact ⟨_, rfl, direct (kind := 0x06) rfl body⟩
  | diagCapture body => exact ⟨_, rfl, direct (kind := 0x07) rfl body⟩
  | setup body | ruleWrite body | ruleRead body | ruleEnable body | ruleDisable body | rawRead body | rawWrite body
  | questWrite body | questRead body | questStart body | questAbort body | scoreSet body | scoreRead body | turnSet body
  | inject body | engineHold body | engineRun body =>
    refine ⟨_, rfl, engine ?_ _ body⟩
    constructor
  | tileWrite body => exact ⟨_, rfl, h.serveItem keepsAlerts_tileWrite 0x09 body⟩
  | effectSend body => exact ⟨_, rfl, h.serveItem keepsAlerts_effectSend 0x17 body⟩
  | gameReset body => exact ⟨_, rfl, h.serveItem keepsAlerts_gameReset 0x1B body⟩
  | questTick =>
    refine ⟨_, rfl, ?_⟩
    split
    · exact keptByEngine.tickAll h _
    · exact h
  | questTimerExpiry q =>
    refine ⟨_, rfl, ?_⟩
    split
    · exact keptByEngine.tickTimer h q
    · exact h
  | scrubSlot =>
    refine ⟨_, rfl, ?_⟩
    split
    · exact keptByEngine.scrubSlot h
    · exact h
  | scrubWriteBack =>
    refine ⟨_, rfl, ?_⟩
    split <;> exact h
  | bitUpset entry position => exact ⟨_, rfl, h⟩
  | pollSend i | effectFrameSend i | assignSend i | effectFrameEnd i | assignEnd i | pollAnswer i _ | replyWindowClose i
  | strayFrame i _ | dozeWaitEnd i | emptyRotationWaitEnd i => exact h.exec_armOf rfl

/-! ### Event items -/

theorem besides (c : Instr) (s : State) (h : s.alertsSound) : (besides c s).alertsSound := by
  rcases besides_eq c s with idle | ⟨takes, runs⟩
  · rwa [idle]
  · obtain ⟨t, ht, sound⟩ := h.exec_of_not_take takes
    rwa [Host.Outcome.next.inj (runs.symm.trans ht)]

theorem runEvent (h : s.alertsSound) (asides : List Aside) (ev : Event) : (runEvent asides ev s).alertsSound :=
  keptByEngine.runEvent besides h asides ev

theorem spendAsides (h : s.alertsSound) : s.spendAsides.alertsSound := h

theorem runTileEvent (h : s.alertsSound) (i : ArmId) (r : EventRecord) : (s.runTileEvent i r).alertsSound :=
  (keptByEngine.engine (h.withArm i _) _).spendAsides.runEvent _ _

theorem runExpiry (h : s.alertsSound) (q : Fin 16) : (s.runExpiry q).alertsSound := by
  have taken := (keptByEngine.engine h
    { s.engine with expiry := s.engine.expiry.tail, inFlight := some (.expiry q) }).spendAsides
  unfold State.runExpiry
  simp only []
  split
  · exact keptByEngine.notify (keptByEngine.endQuest taken q _ _) _
  · exact taken.runEvent _ _

theorem runInject (h : s.alertsSound) (code : Byte) : (s.runInject code).alertsSound :=
  (keptByEngine.engine h _).spendAsides.runEvent _ _

theorem exec (h : s.alertsSound) (c : Instr) : ∃ t, exec c s = .next t ∧ t.alertsSound := by
  by_cases takes : takesEvent c
  · rcases takes with rfl | rfl | rfl
    all_goals
      refine ⟨_, rfl, ?_⟩
      split
    · exact h.runTileEvent _ _
    · exact h
    · exact h.runExpiry _
    · exact h
    · exact h.runInject _
    · exact h
  · exact h.exec_of_not_take takes

end State.alertsSound

end Commands

/-- Settles O7: an idle step changes nothing; a command raises alerts one by one, begins the frame of the head, or resets. -/
theorem alertQueueStaysDistinct : Obligations.AlertQueueStaysDistinct := by
  intro s t sound h
  cases waiting : s.pending with
  | nil =>
    rw [step_idle waiting] at h
    cases h
    exact sound
  | cons c rest =>
    rw [step_front waiting] at h
    obtain ⟨u, hu, kept⟩ := State.alertsSound.exec (s := s.withPending rest) sound c
    rwa [Host.Outcome.next.inj (h.symm.trans hu)]

end Sys2Proof.Machine
end

section
/-! The bytes that arrive on UPRX, and the flow bytes both ways (R164 to R172). -/

namespace Sys2Proof.Machine

open Sys2Proof

section Bytes

variable {s : State} {b : Byte} {stopOk : Bool}

/-- A byte that is no flow byte is the receiver's (R165). -/
theorem exec_uplinkByteReceived (high : s.rstnLow = false) (h : notFlowByte b stopOk = true) :
    exec (.uplinkByteReceived b stopOk) s = .next (s.frameByte b stopOk) := by
  obtain ⟨notHold, notGo⟩ : (stopOk && b == 0xF1) = false ∧ (stopOk && b == 0xF2) = false := by
    cases stopOk <;> simp_all [notFlowByte]
  simp only [exec, execUplinkByteReceived, State.receive, State.alive_of_high high, notHold, notGo, if_true,
    Bool.false_eq_true, if_false]

theorem notFlowByte_iff : notFlowByte b true = true ↔ b ≠ 0xF1 ∧ b ≠ 0xF2 := by simp [notFlowByte]

/-! ### Outside a frame (R165) -/

theorem State.frameByte_start (outside : s.uplink.rx ≠ .frame) :
    s.frameByte 0xC5 true = s.withUplink s.uplink.beginFrame := by
  cases h : s.uplink.rx with
  | idle | discard => simp [State.frameByte, h]
  | frame => exact absurd h outside

/-- What is no start byte with a good stop bit begins no frame. -/
theorem startByte_and_eq_false (h : ¬ (b = 0xC5 ∧ stopOk = true)) : (stopOk && b == 0xC5) = false := by
  cases stopOk <;> simp_all

theorem State.frameByte_stray (idle : s.uplink.rx = .idle) (h : ¬ (b = 0xC5 ∧ stopOk = true)) :
    s.frameByte b stopOk = (s.withUplink { s.uplink with rx := .discard }).raise .uplinkGarbled := by
  simp only [State.frameByte, idle, startByte_and_eq_false h, Bool.false_eq_true, if_false]

theorem State.frameByte_ignored (discard : s.uplink.rx = .discard) (h : ¬ (b = 0xC5 ∧ stopOk = true)) :
    s.frameByte b stopOk = s := by
  simp only [State.frameByte, discard, startByte_and_eq_false h, Bool.false_eq_true, if_false]

/-! ### Inside a frame (R165, R166) -/

theorem State.frameByte_badStop (inFrame : s.uplink.rx = .frame) : s.frameByte b false = s.garble .discard := by
  simp [State.frameByte, inFrame]

/-- A frame begins where the garbled one's bytes have left: the receiver stands there already (R165, R167). -/
theorem State.frameByte_restart (inFrame : s.uplink.rx = .frame) : s.frameByte 0xC5 true = s.garble .frame := by
  have begun : (s.garble .frame).uplink.beginFrame = (s.garble .frame).uplink := by
    obtain ⟨-, becomes⟩ := s.garble_garbledTo .frame
    rw [becomes]
    rfl
  simp only [State.frameByte, inFrame, begun, Bool.not_true, Bool.false_eq_true, if_false, if_true]
  rfl

theorem State.frameByte_content (inFrame : s.uplink.rx = .frame) (h : b ≠ 0xC5) : s.frameByte b true = s.contentByte b := by
  simp only [State.frameByte, inFrame, h, Bool.not_true, Bool.false_eq_true, if_false]

theorem State.contentByte_marker (plain : s.uplink.escape = false) :
    s.contentByte 0xF0 = s.withUplink { s.uplink with escape := true } := by
  simp [State.contentByte, plain]

theorem needsEscape_eq_false : needsEscape b = false ↔ b ≠ 0xC5 ∧ b ≠ 0xF0 ∧ b ≠ 0xF1 ∧ b ≠ 0xF2 := by
  simp [needsEscape, and_assoc]

theorem State.contentByte_plain (plain : s.uplink.escape = false) (h : needsEscape b = false) :
    s.contentByte b = s.storeByte b := by
  obtain ⟨-, notMarker, -⟩ := needsEscape_eq_false.mp h
  simp only [State.contentByte, notMarker, plain, Bool.false_eq_true, if_false]

/-- The four bytes that an escape may stand before (R164). -/
theorem needsEscape_unescaped : needsEscape (b ^^^ 0x40) = true ↔ b = 0x85 ∨ b = 0xB0 ∨ b = 0xB1 ∨ b = 0xB2 := by
  revert b
  decide

theorem State.contentByte_escaped (escaped : s.uplink.escape = true)
    (h : b = 0x85 ∨ b = 0xB0 ∨ b = 0xB1 ∨ b = 0xB2) : s.contentByte b = s.storeByte (b ^^^ 0x40) := by
  have notMarker : b ≠ 0xF0 := by rcases h with rfl | rfl | rfl | rfl <;> decide
  simp only [State.contentByte, notMarker, escaped, needsEscape_unescaped.mpr h, if_false, if_true]

theorem State.contentByte_badEscape (escaped : s.uplink.escape = true)
    (h : b = 0xF0 ∨ ¬ (b = 0x85 ∨ b = 0xB0 ∨ b = 0xB1 ∨ b = 0xB2)) : s.contentByte b = s.garble .discard := by
  by_cases marker : b = 0xF0
  · simp only [State.contentByte, marker, escaped, if_true]
  · have unfit := needsEscape_unescaped.not.mpr (h.resolve_left marker)
    simp only [State.contentByte, marker, escaped, unfit, if_false, if_true]
    rfl

/-- A byte in FRAME that is neither a start byte nor a flow byte belongs to the content (R165). -/
theorem exec_byteInFrame (high : s.rstnLow = false) (inFrame : s.uplink.rx = .frame)
    (h : b ≠ 0xC5 ∧ b ≠ 0xF1 ∧ b ≠ 0xF2) : exec (.uplinkByteReceived b true) s = .next (s.contentByte b) := by
  obtain ⟨notStart, notHold, notGo⟩ := h
  rw [exec_uplinkByteReceived high (notFlowByte_iff.mpr ⟨notHold, notGo⟩), State.frameByte_content inFrame notStart]

/-- A content byte, escaped or not, is stored (R166). -/
theorem exec_contentByte (high : s.rstnLow = false) (inFrame : s.uplink.rx = .frame) {d : Byte}
    (content : (s.uplink.escape = false ∧ needsEscape b = false ∧ d = b) ∨
      (s.uplink.escape = true ∧ (b = 0x85 ∨ b = 0xB0 ∨ b = 0xB1 ∨ b = 0xB2) ∧ d = b ^^^ 0x40)) :
    exec (.uplinkByteReceived b true) s = .next (s.storeByte d) := by
  rcases content with ⟨plain, unmarked, rfl⟩ | ⟨escaped, fits, rfl⟩
  · obtain ⟨notStart, -, noFlow⟩ := needsEscape_eq_false.mp unmarked
    rw [exec_byteInFrame high inFrame ⟨notStart, noFlow⟩, State.contentByte_plain plain unmarked]
  · have noLineByte : b ≠ 0xC5 ∧ b ≠ 0xF1 ∧ b ≠ 0xF2 := by rcases fits with rfl | rfl | rfl | rfl <;> decide
    rw [exec_byteInFrame high inFrame noLineByte, State.contentByte_escaped escaped fits]

end Bytes

/-! ### A content byte is stored (R166, R167, R169) -/

section Stored

variable {s : State} {d length : Byte} {rest : List Byte}

/-- The uplink port with one more decoded byte of the frame in progress (R166, R169, R170). -/
def Uplink.stored (u : Uplink) (d : Byte) : Uplink := { u with escape := false, part := u.part ++ [d] }.afterRise

@[simp] theorem Uplink.stored_part (u : Uplink) (d : Byte) : (u.stored d).part = u.part ++ [d] := by
  rw [Uplink.stored, Uplink.afterRise_part]

@[simp] theorem Uplink.stored_rx (u : Uplink) (d : Byte) : (u.stored d).rx = u.rx := by
  rw [Uplink.stored, Uplink.afterRise_rx]

@[simp] theorem Uplink.stored_escape (u : Uplink) (d : Byte) : (u.stored d).escape = false := by
  rw [Uplink.stored, Uplink.afterRise_escape]

@[simp] theorem Uplink.stored_bufferCount (u : Uplink) (d : Byte) : (u.stored d).bufferCount = u.bufferCount + 1 := by
  simp [Uplink.stored, Uplink.bufferCount, Nat.add_assoc]

theorem Uplink.stored_becomes (u : Uplink) (d : Byte) :
    Uplink.becomes { u with escape := false, part := u.part ++ [d] } (u.stored d)
      (marksAfterRise (u.bufferCount + 1) u.marks) := by
  have risen := Uplink.afterRise_becomes { u with escape := false, part := u.part ++ [d] }
  rw [← Uplink.afterRise_bufferCount, ← Uplink.stored, Uplink.stored_bufferCount] at risen
  exact risen

theorem byteAt_cons_zero (b : Byte) (l : List Byte) : byteAt (b :: l) 0 = b := rfl

theorem State.storeByte_full (full : 512 ≤ s.uplink.bufferCount) : s.storeByte d = s.garble .discard := by
  rw [State.storeByte, Config.bufferCapacity, if_pos full]

/-- A byte that finds room is stored, and the length or the end of the frame judged (R166, R167). -/
theorem State.storeByte_room (room : s.uplink.bufferCount < 512) (whole : s.uplink.part ++ [d] = length :: rest) :
    s.storeByte d =
      if length.toNat = 0 ∨ 41 < length.toNat then (s.withUplink (s.uplink.stored d)).garble .discard
      else if rest.length = length.toNat + 1 then (s.withUplink (s.uplink.stored d)).endFrame
      else s.withUplink (s.uplink.stored d) := by
  rcases s.storeByte_cases d with ⟨full, -⟩ | ⟨-, u, hu, judged⟩
  · omega
  obtain rfl : u = s.uplink.stored d := hu
  rw [Uplink.stored_part, whole, List.length_cons, byteAt_cons_zero] at judged
  rcases judged with ⟨bad, h⟩ | ⟨⟨positive, few⟩, ⟨last, h⟩ | ⟨more, h⟩⟩
  · rw [h, if_pos bad]
  · rw [h, if_neg (by omega), if_pos (by omega)]
  · rw [h, if_neg (by omega), if_neg (by omega)]

/-- A garbled frame whose last byte has just been stored (R167, R170). -/
theorem State.garbledTo_of_stored (s : State) (d : Byte) (next : RxState) :
    s.garbledTo ((s.withUplink (s.uplink.stored d)).garble next) next
      (marksAfterRise (s.uplink.bufferCount + 1) s.uplink.marks) := by
  have garbled := (s.withUplink (s.uplink.stored d)).garble_garbledTo next
  rw [s.uplink.stored_becomes d] at garbled ⊢
  exact garbled

/-- The uplink port behind the last byte of a good frame (R167). -/
def Uplink.frameDone (u : Uplink) (frame : List Byte) : Uplink :=
  { u with rx := .idle, escape := false, frames := u.frames ++ [frame], part := [] }

theorem State.endFrame_good {u : Uplink} {frame : List Byte} (here : u.part = frame) (sum : byteSum frame % 256 = 0) :
    (s.withUplink u).endFrame = s.withUplink (u.frameDone frame) := by
  subst here
  rw [State.endFrame, State.withUplink_uplink, if_pos sum]
  rfl

theorem State.endFrame_bad {u : Uplink} {frame : List Byte} (here : u.part = frame) (sum : byteSum frame % 256 ≠ 0) :
    (s.withUplink u).endFrame = (s.withUplink u).garble .idle := by
  subst here
  rw [State.endFrame, State.withUplink_uplink, if_neg sum]

theorem State.storeByte_goesOn (room : s.uplink.bufferCount < 512)
    (whole : s.uplink.part ++ [d] = length :: rest) (fits : 1 ≤ length.toNat ∧ length.toNat ≤ 41)
    (more : rest.length < length.toNat + 1) : s.storeByte d = s.withUplink (s.uplink.stored d) := by
  rw [State.storeByte_room room whole, if_neg (by omega), if_neg (by omega)]

/-- The last byte of a frame whose sum is right completes it (R166, R167). -/
theorem State.storeByte_completes (room : s.uplink.bufferCount < 512)
    (whole : s.uplink.part ++ [d] = length :: rest) (fits : 1 ≤ length.toNat ∧ length.toNat ≤ 41)
    (last : rest.length = length.toNat + 1) (sum : byteSum (length :: rest) % 256 = 0) :
    s.storeByte d = s.withUplink ((s.uplink.stored d).frameDone (length :: rest)) := by
  have here : (s.uplink.stored d).part = length :: rest := by rw [Uplink.stored_part, whole]
  rw [State.storeByte_room room whole, if_neg (by omega), if_pos last, State.endFrame_good here sum]

end Stored

/-- Settles O17: the receiver's answer to a byte in IDLE and in DISCARD, and to quiet in each state. -/
theorem bytesOutsideAFrame : Obligations.BytesOutsideAFrame := by
  refine ⟨fun s b stopOk high noFlow => ?_, fun s high => ?_⟩
  · rw [exec_uplinkByteReceived high noFlow]
    refine ⟨fun outside start stop => ?_, fun idle noStart => congrArg _ (State.frameByte_stray idle noStart),
      fun discard noStart => congrArg _ (State.frameByte_ignored discard noStart)⟩
    subst start stop
    exact congrArg _ (State.frameByte_start outside)
  · have alive := State.alive_of_high high
    refine ⟨fun inFrame => ⟨s.garble .idle, ?_, s.garble_garbledTo .idle⟩, fun outside => ?_, fun discard => ?_,
      fun other => ?_⟩
    · simp [exec, execPartialFrameTimeout, alive, inFrame]
    · simp [exec, execPartialFrameTimeout, outside]
    · simp [exec, execDiscardQuiet, alive, discard]
    · simp [exec, execDiscardQuiet, other]

/-- Settles O18: each byte in FRAME garbles the frame, is the escape marker, or is a content byte to be stored. -/
theorem bytesInsideAFrameAreStoredOrGarbleIt : Obligations.BytesInsideAFrameAreStoredOrGarbleIt := by
  intro s b high inFrame
  have garbles (next : RxState) : s.garbledTo (s.garble next) next s.uplink.marks := s.garble_garbledTo next
  refine ⟨⟨_, ?_, garbles .discard⟩, ⟨_, ?_, garbles .frame⟩, fun unfit escaped => ⟨_, ?_, garbles .discard⟩,
    fun plain => ?_, fun d content => ⟨s.storeByte d, ?_, fun full => ?_, ?_⟩⟩
  · rw [exec_uplinkByteReceived high rfl, State.frameByte_badStop inFrame]
  · rw [exec_uplinkByteReceived high rfl, State.frameByte_restart inFrame]
  · rcases unfit with rfl | ⟨not85, notB0, notB1, notB2, noLineByte⟩
    · rw [exec_byteInFrame high inFrame (by decide), State.contentByte_badEscape escaped (.inl rfl)]
    · rw [exec_byteInFrame high inFrame noLineByte, State.contentByte_badEscape escaped (.inr (by tauto))]
  · rw [exec_byteInFrame high inFrame (by decide), State.contentByte_marker plain]
  · exact exec_contentByte high inFrame content
  · rw [State.storeByte_full full]
    exact garbles .discard
  · intro room length rest marks whole hmarks
    have stored := State.storeByte_room room whole
    have here : (s.uplink.stored d).part = length :: rest := by rw [Uplink.stored_part, whole]
    have becomes := s.uplink.stored_becomes d
    rw [whole, ← hmarks] at becomes
    refine ⟨fun bad => ?_, fun low high last sum => ?_, fun low high last sum => ?_, fun low high more => ?_⟩
    · rw [stored, if_pos bad, hmarks]
      exact s.garbledTo_of_stored d .discard
    all_goals rw [stored, if_neg (by omega)]
    · rw [if_pos last, State.endFrame_bad here sum, hmarks]
      exact s.garbledTo_of_stored d .idle
    · rw [if_pos last, State.endFrame_good here sum]
      refine ⟨rfl, ?_⟩
      rw [becomes]
      rfl
    · rw [if_neg (by omega)]
      exact ⟨rfl, becomes⟩

end Sys2Proof.Machine
end

section
/-! The flow bytes: HOLD and GO received, and owed flow bytes sent (R165, R170 to R172). -/

namespace Sys2Proof.Machine

open Sys2Proof

section Flow

variable {s : State}

theorem exec_holdReceived (high : s.rstnLow = false) : exec (.holdReceived true) s = .next s.hostHold :=
  congrArg _ (if_pos (State.alive_of_high high))

theorem exec_goReceived (high : s.rstnLow = false) : exec (.goReceived true) s = .next s.hostGo :=
  congrArg _ (if_pos (State.alive_of_high high))

theorem State.hostGo_clear (clear : s.uplink.hostHeld = false) : s.hostGo = s := by
  have same : s.withUplink { s.uplink with hostHeld := false } = s := by rw [← clear]; rfl
  simp only [State.hostGo, same, clear, Bool.false_and, Bool.false_eq_true, if_false]

/-- A GO that ends a hold leaves the choice to the transmitter, which a frame in progress keeps busy (R162, R171). -/
theorem exec_goReceived_held (high : s.rstnLow = false) (held : s.uplink.hostHeld = true) :
    exec (.goReceived true) s = exec .transmitFrameStart (s.withUplink { s.uplink with hostHeld := false }) := by
  rw [exec_goReceived high, State.hostGo, held, Bool.true_and]
  rfl

theorem exec_flowByteSend {f : FlowByte} {rest : List FlowByte} (high : s.rstnLow = false)
    (owed : s.uplink.flowOwed = f :: rest) :
    exec .flowByteSend s = .next (s.withUplink { s.uplink with flowOwed := rest, lastFlow := some f }) := by
  simp only [exec, execFlowByteSend, State.alive_of_high high, owed]

end Flow

/-- Settles O19: the host's two flow bytes at its mark, and the oldest owed flow byte. -/
theorem flowBytesBothWays : Obligations.FlowBytesBothWays := by
  refine ⟨fun s high => ⟨exec_holdReceived high, fun clear => ?_, fun held busy => ?_, fun held _ => ?_, rfl, rfl⟩,
    fun s f rest high owed => exec_flowByteSend high owed⟩
  · rw [exec_goReceived high, State.hostGo_clear clear]
  · rw [exec_goReceived_held high held]
    exact exec_transmitFrameStart_waits (.inl busy)
  · exact exec_goReceived_held high held

end Sys2Proof.Machine
end

section
/-! REQUEST_TAKE: the oldest frame taken, and its kind decoded (R169, R170, R174, R175). -/

namespace Sys2Proof.Machine

open Sys2Proof

/-! ### The frame -/

theorem frameContent_kind (kind : Byte) (body : List Byte) : byteAt (frameContent kind body) 1 = kind := rfl

theorem frameContent_body (kind : Byte) (body : List Byte) : ((frameContent kind body).drop 2).dropLast = body := by
  simp [frameContent]

/-- The free handler takes the oldest frame, whose bytes leave the buffer (R169, R170, R174). -/
theorem exec_requestTake {s : State} {kind : Byte} {body : List Byte} {rest : List (List Byte)} {port : Uplink}
    (high : s.rstnLow = false) (free : s.handler = .idle) (oldest : s.uplink.frames = frameContent kind body :: rest)
    (hport : Uplink.becomes { s.uplink with frames := rest } port
      (marksAfterFall ((rest.map List.length).sum + s.uplink.part.length) s.uplink.marks)) :
    exec .requestTake s = .next ((s.withUplink port).decodeRequest kind body) := by
  obtain rfl : port = Uplink.afterFall { s.uplink with frames := rest } :=
    hport.trans (Uplink.afterFall_becomes { s.uplink with frames := rest }).symm
  simp only [exec, execRequestTake, State.alive_of_high high, free, oldest, frameContent_kind, frameContent_body]

/-! ### The kind -/

theorem directItem_eq_none {kind : Byte} (h : kind.toNat = 0 ∨ 0x08 ≤ kind.toNat) : directItem kind = none := by
  unfold directItem
  split
  case h_8 => rfl
  all_goals omega

theorem State.decodeRequest_management {s : State} {kind : Byte} {body : List Byte} (low : 0x08 ≤ kind.toNat)
    (most : kind.toNat ≤ 0x1B) : s.decodeRequest kind body = s.withHandler (.pending kind body) := by
  simp [State.decodeRequest, directItem_eq_none (.inr low), isManagement, low, most]

theorem State.decodeRequest_unknown {s : State} {kind : Byte} {body : List Byte} (h : kind = 0 ∨ 0x1B < kind.toNat) :
    s.decodeRequest kind body = s.replying kind .unknown [kind] := by
  have number : kind.toNat = 0 ∨ 0x1B < kind.toNat := h.imp_left fun zero => by rw [zero]; rfl
  have unmanaged : isManagement kind = false := by
    simp only [isManagement, Bool.and_eq_false_iff, decide_eq_false_iff_not]
    omega
  rw [State.decodeRequest, directItem_eq_none (by omega), unmanaged]
  rfl

theorem State.decodeRequest_direct {s : State} {kind : Byte} {body : List Byte}
    {item : List Byte → State → State × Reply} (hd : directItem kind = some item) :
    s.decodeRequest kind body = (item body s).1.withHandler (.reply (item body s).2) := by
  rw [State.decodeRequest, hd]

/-! ### The directly served requests have no business with the uplink port (R175) -/

theorem State.withUplink_withArm (s : State) (u : Uplink) (i : ArmId) (x : Arm) :
    (s.withUplink u).withArm i x = (s.withArm i x).withUplink u := by
  cases i <;> rfl

theorem directItem_withUplink {kind : Byte} {item : List Byte → State → State × Reply} (hd : directItem kind = some item)
    (body : List Byte) (s : State) (u : Uplink) :
    item body (s.withUplink u) = ((item body s).1.withUplink u, (item body s).2) := by
  unfold directItem at hd
  split at hd <;> cases hd
  · rfl
  · simp only [armStatusItem, State.withUplink_arm]
    split <;> rfl
  · unfold tileReadItem
    split <;> rfl
  · simp only [armStartItem, State.withUplink_arm, State.withUplink_withArm]
    split
    · rfl
    · split <;> rfl
  · simp only [armStopItem, State.withUplink_arm, State.withUplink_withArm]
    split <;> rfl
  · unfold dozeItem
    split <;> rfl
  · unfold diagCaptureItem
    split <;> rfl

/-- The commands of the directly served requests, by kind (R175). -/
theorem exec_directCommand {kind : Byte} {body : List Byte} {c : Instr}
    (hc : (kind, c) ∈ [((0x01 : Byte), Instr.identify body), (0x02, .armStatus body), (0x03, .tileRead body),
      (0x04, .armStart body), (0x05, .armStop body), (0x06, .doze body), (0x07, .diagCapture body)]) :
    ∃ item, directItem kind = some item ∧ ∀ s, exec c s = .next (serveDirect item body s) := by
  simp only [List.mem_cons, List.not_mem_nil, or_false, Prod.mk.injEq] at hc
  rcases hc with ⟨rfl, rfl⟩ | ⟨rfl, rfl⟩ | ⟨rfl, rfl⟩ | ⟨rfl, rfl⟩ | ⟨rfl, rfl⟩ | ⟨rfl, rfl⟩ | ⟨rfl, rfl⟩ <;>
    exact ⟨_, rfl, fun _ => rfl⟩

/-- Settles O22: the frame is taken, and its kind is a management request's, unknown, or one that is served directly. -/
theorem requestTakeDecodesTheKind : Obligations.RequestTakeDecodesTheKind := by
  intro s kind body rest port high free _ oldest hport
  rw [exec_requestTake high free oldest hport]
  refine ⟨fun low most => congrArg _ (State.decodeRequest_management low most),
    fun unknown => congrArg _ (State.decodeRequest_unknown unknown), fun c hc => ?_⟩
  obtain ⟨item, direct, serves⟩ := exec_directCommand hc
  have idle : (s.withUplink { s.uplink with frames := [] }).handlerIdle := ⟨high, free, rfl⟩
  refine ⟨_, (serves _).trans (congrArg _ (serveDirect_idle item body idle)), ?_⟩
  rw [State.decodeRequest_direct direct, directItem_withUplink direct, directItem_withUplink direct]
  rfl

end Sys2Proof.Machine
end

section
/-! A whole frame, byte by byte through the step function (R164 to R170, R181). -/

namespace Sys2Proof.Machine

open Sys2Proof

/-! ### Runs over arriving bytes -/

/-- A run goes on from the state that its first step leaves. -/
theorem run_succ {M : Host.Core} {s t : M.State} (h : M.step s = .next t) (k : Nat) : M.run (k + 1) s = M.run k t := by
  rw [Host.Core.run, h]

/-- The commands of these bytes, one step each, leave `t`, whatever waits behind them. -/
def State.receives (s : State) (line : List Byte) (t : State) : Prop :=
  ∀ rest, Host.Core.run core line.length (s.withPending (arriving line ++ rest)) = .next (t.withPending rest)

section Receives

variable {s t : State} {line : List Byte} {b d : Byte} {u : Uplink}

theorem State.receives_nil (s : State) : s.receives [] s := fun _ => rfl

/-- The first byte does its work on the uplink port, and the others follow. -/
theorem State.receives_cons (first : ∀ queue, exec (.uplinkByteReceived b true) (s.withPending queue) =
    .next ((s.withUplink u).withPending queue)) (others : (s.withUplink u).receives line t) : s.receives (b :: line) t := by
  intro rest
  have stepped : core.step (s.withPending (arriving (b :: line) ++ rest)) =
      .next ((s.withUplink u).withPending (arriving line ++ rest)) := first (arriving line ++ rest)
  exact (run_succ stepped line.length).trans (others rest)

/-- The line bytes of a content byte that is stored, whether it is escaped or not (R164, R166). -/
theorem State.receives_escapeByte (high : s.rstnLow = false) (inFrame : s.uplink.rx = .frame)
    (plain : s.uplink.escape = false)
    (stores : ∀ (r : State) (e : Bool), r.uplink = { s.uplink with escape := e } → r.storeByte d = r.withUplink u)
    (others : (s.withUplink u).receives line t) : s.receives (escapeByte d ++ line) t := by
  cases marked : needsEscape d with
  | false =>
    rw [escapeByte, marked]
    refine State.receives_cons (fun queue => ?_) others
    refine (exec_contentByte (s := s.withPending queue) high inFrame (.inl ⟨plain, marked, rfl⟩)).trans (congrArg _ ?_)
    exact stores _ false (by rw [← plain]; rfl)
  | true =>
    rw [escapeByte, marked]
    have back : d = d ^^^ 0x40 ^^^ 0x40 := by rw [BitVec.xor_assoc, BitVec.xor_self, BitVec.xor_zero]
    have fits := needsEscape_unescaped.mp ((congrArg needsEscape back.symm).trans marked)
    refine State.receives_cons (u := { s.uplink with escape := true }) (fun queue => ?_)
      (State.receives_cons (fun queue => ?_) others)
    · exact (exec_byteInFrame (s := s.withPending queue) high inFrame (by decide)).trans
        (congrArg _ (State.contentByte_marker plain))
    · exact (exec_contentByte (s := (s.withUplink { s.uplink with escape := true }).withPending queue) high inFrame
        (.inr ⟨rfl, fits, back⟩)).trans (congrArg _ (stores _ true rfl))

end Receives

/-! ### The content of a frame -/

theorem marksAfterRise_again {m n : Nat} (h : m ≤ n) (marks : Bool × List FlowByte) :
    marksAfterRise n (marksAfterRise m marks) = marksAfterRise n marks := by
  unfold marksAfterRise
  split
  · next risen => rw [if_neg (by simp), if_pos ⟨risen.1.trans h, risen.2⟩]
  · rfl

/-- Bytes stored one after another, and the marks of R170 with the last. -/
theorem Uplink.foldl_stored_becomes (u : Uplink) (d : Byte) (ds : List Byte) :
    Uplink.becomes { u with escape := false, part := u.part ++ d :: ds } ((d :: ds).foldl Uplink.stored u)
      (marksAfterRise (u.bufferCount + (ds.length + 1)) u.marks) := by
  induction ds generalizing u d with
  | nil => exact u.stored_becomes d
  | cons e ds ih =>
    have later := ih (u.stored d) e
    have marks : (u.stored d).marks = marksAfterRise (u.bufferCount + 1) u.marks := by rw [u.stored_becomes d]; rfl
    rw [Uplink.stored_bufferCount, marks, marksAfterRise_again (by omega), Uplink.stored_part] at later
    rw [List.foldl_cons, later, u.stored_becomes d]
    simp only [Uplink.becomes, List.append_assoc, List.singleton_append, List.length_cons]
    rw [Nat.add_assoc, Nat.add_comm 1]

/-- A frame's content opens with its length and closes with the check byte of a right sum (R164, R181). -/
theorem frameContent_parts (kind : Byte) {body : List Byte} (short : body.length ≤ 40) :
    ∃ length check, frameContent kind body = (length :: kind :: body) ++ [check] ∧ length.toNat = body.length + 1 ∧
      byteSum ((length :: kind :: body) ++ [check]) % 256 = 0 := by
  refine ⟨byteOf (body.length + 1), _, rfl, ?_, byteSum_uplinkCheck _⟩
  rw [byteOf, BitVec.toNat_ofNat, Nat.mod_eq_of_lt (by omega)]

section Content

variable {s t : State} {line : List Byte} {length : Byte}

/-- Content bytes that do not complete the frame are stored one after another (R166). -/
theorem State.receives_content (high : s.rstnLow = false) (inFrame : s.uplink.rx = .frame) (plain : s.uplink.escape = false)
    (fits : 1 ≤ length.toNat ∧ length.toNat ≤ 41) (ds : List Byte) (first : (s.uplink.part ++ ds).head? = some length)
    (more : s.uplink.part.length + ds.length < length.toNat + 2) (room : s.uplink.bufferCount + ds.length ≤ 512)
    (others : (s.withUplink (ds.foldl Uplink.stored s.uplink)).receives line t) :
    s.receives (ds.flatMap escapeByte ++ line) t := by
  induction ds generalizing s with
  | nil => exact others
  | cons d ds ih =>
    rw [List.flatMap_cons, List.append_assoc]
    have begun : (s.uplink.part ++ [d]).head? = some length := by
      cases hp : s.uplink.part <;> simp_all
    obtain ⟨rest, whole⟩ := List.head?_eq_some_iff.mp begun
    have size : rest.length = s.uplink.part.length := by simpa using (congrArg List.length whole).symm
    rw [List.length_cons] at more room
    refine State.receives_escapeByte (u := s.uplink.stored d) high inFrame plain (fun r e hr => ?_) ?_
    · have here : r.uplink.stored d = s.uplink.stored d := by rw [hr]; rfl
      have free : s.uplink.bufferCount < 512 := by omega
      rw [← here]
      exact State.storeByte_goesOn (by rwa [hr]) (by rwa [hr]) fits (by omega)
    · refine ih high (by simpa using inFrame) (by simp) (by simpa using first) ?_ ?_ others
      · rw [State.withUplink_uplink, Uplink.stored_part, List.length_append, List.length_singleton]
        omega
      · rw [State.withUplink_uplink, Uplink.stored_bufferCount]
        omega

/-- A frame's line bytes that find an idle receiver and room put the content behind the complete frames (R164 to R170). -/
theorem State.receives_frameLine (high : s.rstnLow = false) (idle : s.uplink.rx = .idle) (kind : Byte) (body : List Byte)
    (short : body.length ≤ 40) (room : s.uplink.bufferCount + (body.length + 3) ≤ 512) :
    s.receives (frameLine kind body) (s.withUplink
      (((frameContent kind body).foldl Uplink.stored s.uplink.beginFrame).frameDone (frameContent kind body))) := by
  obtain ⟨length, check, content, number, sum⟩ := frameContent_parts kind short
  have fits : 1 ≤ length.toNat ∧ length.toNat ≤ 41 := by omega
  have empty : s.uplink.beginFrame.bufferCount ≤ s.uplink.bufferCount := by
    simp [Uplink.bufferCount, Uplink.beginFrame]
  have filled := s.uplink.beginFrame.foldl_stored_becomes length (kind :: body)
  rw [frameLine, content, List.flatMap_append, List.foldl_append]
  refine State.receives_cons (fun queue => ?_) (State.receives_content (s := s.withUplink s.uplink.beginFrame)
    (length := length) high rfl rfl fits _ rfl ?_ ?_ ?_)
  · exact (exec_uplinkByteReceived (s := s.withPending queue) high rfl).trans
      (congrArg _ (State.frameByte_start (s := s.withPending queue) (by rw [State.withPending_uplink, idle]; decide)))
  · simp [Uplink.beginFrame, number]
  · simp only [List.length_cons, State.withUplink_uplink]
    omega
  · rw [State.withUplink_uplink, filled]
    refine State.receives_escapeByte high rfl rfl (fun r e hr => ?_) (State.receives_nil _)
    refine (State.storeByte_completes (length := length) (rest := kind :: body ++ [check]) ?_ ?_ fits ?_ sum).trans ?_
    · have free : (s.uplink.frames.map List.length).sum + (body.length + 2) < 512 := by
        rw [Uplink.bufferCount] at room
        omega
      rw [hr]
      exact free
    · rw [hr]
      rfl
    · simp [number]
    · rw [hr]
      rfl

end Content

/-- Settles O16: the receiver stores the content byte by byte, and the last byte completes the frame. -/
theorem uplinkFrameIsReceivedWhole : Obligations.UplinkFrameIsReceivedWhole := by
  intro s kind body rest short high idle room waiting
  obtain ⟨length, others, content⟩ : ∃ length others, frameContent kind body = length :: others := ⟨_, _, rfl⟩
  have size : others.length + 1 = body.length + 3 := by
    rw [← List.length_cons (a := length), ← content]
    simp [frameContent]
  have begun : s.uplink.beginFrame.bufferCount = (s.uplink.frames.map List.length).sum := by
    simp [Uplink.bufferCount, Uplink.beginFrame]
  have filled := s.uplink.beginFrame.foldl_stored_becomes length others
  rw [← content, size, begun] at filled
  have run := State.receives_frameLine high idle kind body short room rest
  rw [← waiting, filled] at run
  exact ⟨_, run, rfl, rfl, rfl, rfl, rfl, rfl, rfl, rfl, rfl⟩

end Sys2Proof.Machine
end

section
/-! Every command completes, and leaves the queue of waiting commands as it stands (R177, R182). -/

namespace Sys2Proof.Machine

open Sys2Proof

/-! ### The operations -/

theorem keptByEngine_pending (queue : List Instr) : KeptByEngine fun s => s.pending = queue where
  engine h _ := h
  timers h _ := h
  memory h _ := h
  raise h _ := h
  notify h _ := h
  placeEcho h _ := h
  enqueue {s} h i e := by rwa [State.enqueue_eq, State.withArm_pending]

section Operations

variable {s t : State} {i : ArmId}

theorem State.WithinPort.pending (h : s.WithinPort t) : t.pending = s.pending := by
  obtain ⟨u, n, p, rfl⟩ := h
  rfl

theorem State.WithinArm.pending (h : s.WithinArm i t) : t.pending = s.pending := by
  obtain ⟨x, q, rfl⟩ := h
  cases i <;> rfl

@[simp] theorem State.bring_pending (s : State) (i : ArmId) : (s.bring i).pending = s.pending :=
  (State.WithinArm.refl s i).bring.pending

@[simp] theorem State.settle_pending (s : State) (i : ArmId) : (s.settle i).pending = s.pending :=
  (State.WithinArm.refl s i).settle.pending

@[simp] theorem State.raiseOpt_pending (s : State) (al : Option Alert) : (s.raiseOpt al).pending = s.pending := by
  cases al <;> rfl

/-! ### Answers and misses (R11 to R16, R22, R29 to R32, R43) -/

@[simp] theorem State.acceptEvent_pending (s : State) (i : ArmId) (p : Fin 32) (e : TileEvent) (toggle : Bool) :
    (s.acceptEvent i p e toggle).pending = s.pending := by
  rcases s.acceptEvent_cases i p e toggle rfl rfl with ⟨-, h⟩ | ⟨-, -, h⟩ | ⟨-, -, h⟩ <;> simp [h]

@[simp] theorem State.answerPresent_pending (s : State) (i : ArmId) (p : Fin 32) (ans : Answer) :
    (s.answerPresent i p ans).1.pending = s.pending := by
  cases ans with
  | event e toggle more =>
    simp only [State.answerPresent]
    split <;> simp
  | idle | hello kind => simp [State.answerPresent]

@[simp] theorem State.answerValid_pending (s : State) (i : ArmId) (p : Fin 32) (ans : Answer) :
    (s.answerValid i p ans).1.pending = s.pending := by
  unfold State.answerValid
  simp only []
  repeat' split
  all_goals simp

@[simp] theorem State.answerMissed_pending (s : State) (i : ArmId) (p : Fin 32) :
    (s.answerMissed i p).1.pending = s.pending :=
  ((State.WithinArm.refl s i).answerMissed p).pending

@[simp] theorem State.afterOutcome_pending (i : ArmId) (r : State × Bool) : (State.afterOutcome i r).pending = r.1.pending :=
  (State.withinArm_afterOutcome r i).pending

@[simp] theorem State.endPoll_pending (s : State) (i : ArmId) (poll : Poll) (valid : Bool) :
    (s.endPoll i poll valid).pending = s.pending :=
  (s.withinArm_endPoll i poll valid).pending

theorem State.pollAnswered_pending (s : State) (i : ArmId) (poll : Poll) (bytes : List LineByte) :
    (s.pollAnswered i poll bytes).pending = s.pending := by
  unfold State.pollAnswered
  split <;> simp

theorem State.received_pending (s : State) (i : ArmId) (x : Arm) : (s.received i x).pending = s.pending :=
  (s.withinArm_received i x).pending

/-- Every command of one arm's pair. -/
theorem exec_armOf_pending {c : Instr} (hc : Instr.armOf c = some i) (s : State) :
    ∃ t, exec c s = .next t ∧ t.pending = s.pending := by
  have sends (hc : c = .pollSend i ∨ c = .effectFrameSend i ∨ c = .assignSend i) :
      ∃ t, exec c s = .next t ∧ t.pending = s.pending := by
    obtain ⟨t, ht, only⟩ := exec_withinArm_of_send hc s
    exact ⟨t, ht, only.pending⟩
  cases c <;> cases hc
  case pollSend => exact sends (.inl rfl)
  case effectFrameSend => exact sends (.inr (.inl rfl))
  case assignSend => exact sends (.inr (.inr rfl))
  case dozeWaitEnd | emptyRotationWaitEnd => exact ⟨_, rfl, (s.withinArm_waitOver i _).pending⟩
  case effectFrameEnd | assignEnd =>
    refine ⟨_, rfl, ?_⟩
    split <;> simp
  case strayFrame =>
    refine ⟨_, rfl, ?_⟩
    split
    · exact s.received_pending i _
    · rfl
  case pollAnswer bytes =>
    refine ⟨_, rfl, ?_⟩
    split
    · exact s.pollAnswered_pending i _ bytes
    · exact s.received_pending i _
    · rfl
  case replyWindowClose =>
    refine ⟨_, rfl, ?_⟩
    split
    · simp
    · exact s.received_pending i _
    · rfl

end Operations

/-! ### The requests -/

/-- An item that leaves the queue of waiting commands as it stands. -/
def keepsPending (item : List Byte → State → State × Reply) : Prop :=
  ∀ (body : List Byte) (s : State), (item body s).1.pending = s.pending

theorem EngineItem.keepsPending {item : List Byte → State → State × Reply} (hi : EngineItem item) : keepsPending item :=
  fun body s => (keptByEngine_pending s.pending).item rfl hi body

theorem keepsPending_armStart : keepsPending armStartItem := by
  intro body s
  unfold armStartItem
  split
  · rfl
  · split <;> simp

theorem keepsPending_armStop : keepsPending armStopItem := by
  intro body s
  unfold armStopItem
  split <;> simp

theorem keepsPending_doze : keepsPending dozeItem := by
  intro body s
  unfold dozeItem
  split <;> rfl

theorem keepsPending_directItem {kind : Byte} {item : List Byte → State → State × Reply} (hd : directItem kind = some item) :
    keepsPending item := by
  unfold directItem at hd
  split at hd <;> cases hd
  · exact EngineItem.identify.keepsPending
  · exact EngineItem.armStatus.keepsPending
  · exact EngineItem.tileRead.keepsPending
  · exact keepsPending_armStart
  · exact keepsPending_armStop
  · exact keepsPending_doze
  · exact EngineItem.diagCapture.keepsPending

theorem keepsPending_tileWrite : keepsPending tileWriteItem := by
  intro body s
  unfold tileWriteItem State.tileWritten
  split
  · rfl
  · simp only []
    split <;> simp

theorem keepsPending_effectSend : keepsPending effectSendItem := by
  intro body s
  unfold effectSendItem
  split
  · rfl
  split
  · rfl
  split
  · rfl
  · exact (keptByEngine_pending s.pending).enqueue rfl _ _

theorem keepsPending_gameReset : keepsPending gameResetItem := by
  intro body s
  unfold gameResetItem
  split <;> rfl

section Served

variable {item : List Byte → State → State × Reply}

theorem keepsPending.serveDirect (hi : keepsPending item) (body : List Byte) (s : State) :
    (serveDirect item body s).pending = s.pending := by
  rcases serveDirect_cases item body s with ⟨-, hs⟩ | ⟨-, hs⟩ <;> rw [hs]
  exact hi body s

theorem keepsPending.serveItem (hi : keepsPending item) (kind : Byte) (body : List Byte) (s : State) :
    (serveItem kind item body s).pending = s.pending := by
  rcases serveItem_cases kind item body s with ⟨-, hs⟩ | ⟨-, hs⟩ <;> rw [hs]
  exact hi body (s.take (.management kind body))

theorem State.decodeRequest_pending (s : State) (kind : Byte) (body : List Byte) :
    (s.decodeRequest kind body).pending = s.pending := by
  unfold State.decodeRequest
  split
  · next item hd => exact keepsPending_directItem hd body s
  · split <;> rfl

end Served

/-! ### The commands -/

theorem exec_pending_of_not_take (s : State) {c : Instr} (takes : ¬ takesEvent c) :
    ∃ t, exec c s = .next t ∧ t.pending = s.pending := by
  have same : s.WithinPort s := .refl s
  have kept := keptByEngine_pending s.pending
  have direct {kind : Byte} {item : List Byte → State → State × Reply} (hd : directItem kind = some item) (body : List Byte) :
      (serveDirect item body s).pending = s.pending := (keepsPending_directItem hd).serveDirect body s
  simp only [takesEvent, not_or] at takes
  obtain ⟨tile, expiry, injected⟩ := takes
  cases c with
  | tileEventTake => exact absurd rfl tile
  | expiryTake => exact absurd rfl expiry
  | injectTake => exact absurd rfl injected
  | powerOn => exact ⟨_, exec_powerOn s, rfl⟩
  | resetLine => exact ⟨_, exec_resetLine s, rfl⟩
  | rstnRelease =>
    cases level : s.rstnLow with
    | true => exact ⟨_, exec_rstnRelease_low s level, rfl⟩
    | false => exact ⟨_, exec_rstnRelease_high s level, rfl⟩
  | uplinkByteReceived b ok => exact ⟨_, rfl, (same.receive b ok).pending⟩
  | holdReceived ok => exact ⟨_, rfl, (same.receive 0xF1 ok).pending⟩
  | goReceived ok => exact ⟨_, rfl, (same.receive 0xF2 ok).pending⟩
  | partialFrameTimeout | discardQuiet | flowByteSend | scrubWriteBack =>
    refine ⟨_, rfl, ?_⟩
    split <;> rfl
  | transmitFrameStart =>
    refine ⟨_, rfl, ?_⟩
    split
    · exact same.startFrame.pending
    · rfl
  | transmitFrameEnd =>
    refine ⟨_, rfl, ?_⟩
    split
    · exact ((same.withUplink _).frameSent _).pending
    · rfl
  | requestTake =>
    refine ⟨_, rfl, ?_⟩
    split
    · exact State.decodeRequest_pending _ _ _
    · rfl
  | identify body => exact ⟨_, rfl, direct (kind := 0x01) rfl body⟩
  | armStatus body => exact ⟨_, rfl, direct (kind := 0x02) rfl body⟩
  | tileRead body => exact ⟨_, rfl, direct (kind := 0x03) rfl body⟩
  | armStart body => exact ⟨_, rfl, direct (kind := 0x04) rfl body⟩
  | armStop body => exact ⟨_, rfl, direct (kind := 0x05) rfl body⟩
  | doze body => exact ⟨_, rfl, direct (kind := 0x06) rfl body⟩
  | diagCapture body => exact ⟨_, rfl, direct (kind := 0x07) rfl body⟩
  | setup body | ruleWrite body | ruleRead body | ruleEnable body | ruleDisable body | rawRead body | rawWrite body
  | questWrite body | questRead body | questStart body | questAbort body | scoreSet body | scoreRead body | turnSet body
  | inject body | engineHold body | engineRun body =>
    refine ⟨_, rfl, keepsPending.serveItem (EngineItem.keepsPending ?_) _ body s⟩
    constructor
  | tileWrite body => exact ⟨_, rfl, keepsPending_tileWrite.serveItem 0x09 body s⟩
  | effectSend body => exact ⟨_, rfl, keepsPending_effectSend.serveItem 0x17 body s⟩
  | gameReset body => exact ⟨_, rfl, keepsPending_gameReset.serveItem 0x1B body s⟩
  | questTick =>
    refine ⟨_, rfl, ?_⟩
    split
    · exact kept.tickAll rfl _
    · rfl
  | questTimerExpiry q =>
    refine ⟨_, rfl, ?_⟩
    split
    · exact kept.tickTimer rfl q
    · rfl
  | scrubSlot =>
    refine ⟨_, rfl, ?_⟩
    split
    · exact kept.scrubSlot rfl
    · rfl
  | bitUpset entry position => exact ⟨_, rfl, rfl⟩
  | pollSend i | effectFrameSend i | assignSend i | effectFrameEnd i | assignEnd i | pollAnswer i _ | replyWindowClose i
  | strayFrame i _ | dozeWaitEnd i | emptyRotationWaitEnd i => exact exec_armOf_pending rfl s

theorem besides_pending (c : Instr) (s : State) : (besides c s).pending = s.pending := by
  rcases besides_eq c s with idle | ⟨takes, runs⟩
  · rw [idle]
  · obtain ⟨t, ht, kept⟩ := exec_pending_of_not_take s takes
    rwa [Host.Outcome.next.inj (runs.symm.trans ht)]

/-- A whole event item, with what the other blocks do meanwhile (R110, R119, R128, R130). -/
theorem runEvent_pending (asides : List Aside) (ev : Event) (s : State) : (runEvent asides ev s).pending = s.pending :=
  (keptByEngine_pending s.pending).runEvent (fun c t h => (besides_pending c t).trans h) rfl asides ev

theorem State.runTileEvent_pending (s : State) (i : ArmId) (r : EventRecord) : (s.runTileEvent i r).pending = s.pending := by
  simp [State.runTileEvent, runEvent_pending]

theorem State.runExpiry_pending (s : State) (q : Fin 16) : (s.runExpiry q).pending = s.pending := by
  unfold State.runExpiry
  simp only []
  split
  · rfl
  · exact runEvent_pending _ _ _

theorem State.runInject_pending (s : State) (code : Byte) : (s.runInject code).pending = s.pending :=
  runEvent_pending _ _ _

/-- Settles O2: the takes of event items run the item, and each other command does its block's work. -/
theorem everyCommandCompletesAndKeepsTheQueue : Obligations.EveryCommandCompletesAndKeepsTheQueue := by
  intro c s
  by_cases takes : takesEvent c
  · rcases takes with rfl | rfl | rfl
    all_goals
      refine ⟨_, rfl, ?_⟩
      split
    · exact s.runTileEvent_pending _ _
    · rfl
    · exact s.runExpiry_pending _
    · rfl
    · exact s.runInject_pending _
    · rfl
  · exact exec_pending_of_not_take s takes

end Sys2Proof.Machine
end
